-- ==== Sys2Proof/Word.lean ====
section
/-! DEFINITION. The word types of the block: bytes, pin descriptors, command words. -/

namespace Sys2Proof

/-- A Channel Value, `u8` (10_state.md R21). -/
abbrev Byte := BitVec 8

/-- A pin descriptor, `u8`, opaque to the block (10_state.md R32). -/
abbrev Pin := BitVec 8

/-- The host command word `CMD`, 36 bits, bit 35 most significant (30_encoding.md R91). -/
abbrev CmdWord := BitVec 36

end Sys2Proof
end

