-- ==== Sys2Proof/Syntax.lean ====
section
/-! DEFINITION. The operation set of the block, one constructor per row of spec/opcode_table.json (00_scope.md R2). -/

namespace Sys2Proof

/-- The closed operation set (00_scope.md R2): four host commands, one event, six engine operations and procedures,
and the composite Restart. Host command operands are the `int` values of 30_encoding.md R93 and R94 and the `u8`
pins of R95. -/
inductive Instr where
  /-- WRITE `channel`, `value` (40_config_commands.md R120). -/
  | write (channel value : Int)
  /-- SETCOUNT `n` (40_config_commands.md R121). -/
  | setcount (n : Int)
  /-- CONFIGPINS `dataPin`, `markerPin` (40_config_commands.md R122). -/
  | configpins (dataPin markerPin : Pin)
  /-- STOP, the host command (40_config_commands.md R123). -/
  | stop
  /-- TICK, the event (42_frame_tick.md R150). -/
  | tick
  /-- FRAME_START, the unit of `TS = 0` (42_frame_tick.md R155). -/
  | frameStart
  /-- CHANNEL_SLOT, the unit of `TS != 0` (42_frame_tick.md R156). -/
  | channelSlot
  /-- SEND_BYTE `value`, `pin` (41_byte_transmitter.md R140). -/
  | sendByte (value : Byte) (pin : Pin)
  /-- ADVANCE (42_frame_tick.md R157). -/
  | advance
  /-- Start, the procedure (40_config_commands.md R124). -/
  | startProc
  /-- Stop, the procedure (40_config_commands.md R125). -/
  | stopProc
  /-- Restart, Stop then Start (40_config_commands.md R126). -/
  | restart
  deriving DecidableEq, Repr

end Sys2Proof
end

