-- ==== Sys2Proof/WellFormed.lean ====
section
/-! DEFINITION. Which instructions are well formed: an `int` operand of a host command lies in the range of its
s16 field (30_encoding.md R93, R94). The `u8` operands are in range by their type. -/

namespace Sys2Proof

/-- The range of an s16 field, −32768 to 32767 (00_scope.md R12). -/
def inS16 (v : Int) : Bool := decide (-32768 ≤ v) && decide (v ≤ 32767)

/-- The check on an instruction's operands. -/
def Instr.wf : Instr → Bool
  | .write channel value => inS16 channel && inS16 value
  | .setcount n => inS16 n
  | .configpins _ _ => true
  | .stop => true
  | .tick => true
  | .frameStart => true
  | .channelSlot => true
  | .sendByte _ _ => true
  | .advance => true
  | .startProc => true
  | .stopProc => true
  | .restart => true

end Sys2Proof
end

