-- ==== Sys2Proof/Decode.lean ====
section
/-! DEFINITION. The four formats (30_encoding.md R90), the decoder, total and rejecting by name, the encoder, and the
host's `decodeTableWord`. -/

namespace Sys2Proof

/-- An encoded operation, one constructor per format of 30_encoding.md R90. Formats S and F are read off the data
line, so a format S word comes with the pin it was seen on; the first cell in time is the most significant bit, as in
the patterns of 30_encoding.md R99 and R102. -/
inductive Code where
  /-- Format H: the 36-bit host command word (R91). -/
  | formatH (cmd : CmdWord)
  /-- Format E: the level of the one-bit tick line, 1 being the pulse (R98). -/
  | formatE (line : BitVec 1)
  /-- Format S: eleven cells on a pin (R99). -/
  | formatS (pin : Pin) (cells : BitVec 11)
  /-- Format F: the first 35 cells of a frame at their minimum durations (R102). -/
  | formatF (cells : BitVec 35)
  deriving DecidableEq, Repr

/-- Why a word is rejected. -/
inductive Reject where
  /-- A command word whose `op` is 0x0 or 0x5 to 0xF selects no command (R97). -/
  | reservedOp (op : BitVec 4)
  /-- The tick line carries no pulse (R98). -/
  | noTickPulse
  /-- The first cell of a slot, the start bit, is not low (R99). -/
  | startCellHigh
  /-- One of the two last cells of a slot, the stop bits, is not high (R99). -/
  | stopCellLow
  /-- The 35 cells are not the frame-start pattern (R102). -/
  | notFrameStart
  deriving DecidableEq, Repr

/-- Field `op = CMD bits[35:32]` (R91). -/
def opField (cmd : CmdWord) : BitVec 4 := cmd.extractLsb' 32 4

/-- Field `A = CMD bits[31:16]` (R91). -/
def aField (cmd : CmdWord) : BitVec 16 := cmd.extractLsb' 16 16

/-- Field `B = CMD bits[15:0]` (R91). -/
def bField (cmd : CmdWord) : BitVec 16 := cmd.extractLsb' 0 16

/-- `sext_16` of a field (00_scope.md R12, 30_encoding.md R93). -/
def sext16 (field : BitVec 16) : Int := field.toInt

/-- Bits 7..0 of a field, `zext_8` read as a `u8` (30_encoding.md R95). -/
def lowByte (field : BitVec 16) : BitVec 8 := field.extractLsb' 0 8

/-- The command a format H word selects (R91 to R97). Operand bits the layout marks ignored are not read. -/
def decodeCommand (cmd : CmdWord) : Except Reject Instr :=
  if opField cmd = 0x1#4 then .ok (.write (sext16 (aField cmd)) (sext16 (bField cmd)))
  else if opField cmd = 0x2#4 then .ok (.setcount (sext16 (aField cmd)))
  else if opField cmd = 0x3#4 then .ok (.configpins (lowByte (aField cmd)) (lowByte (bField cmd)))
  else if opField cmd = 0x4#4 then .ok .stop
  else .error (.reservedOp (opField cmd))

/-- The value of a bit as a number. -/
def bitNat (b : Bool) : Nat := if b then 1 else 0

/-- Cell `k` of a slot word, `k = 0` first in time (R99). -/
def slotCell (cells : BitVec 11) (k : Nat) : Bool := cells.getLsbD (10 - k)

/-- The byte a receiver reads, `v = sum over i of cell(1+i) * 2^i` (R99). -/
def slotValue (cells : BitVec 11) : Byte :=
  BitVec.ofNat 8
    (bitNat (slotCell cells 1) + bitNat (slotCell cells 2) * 2 + bitNat (slotCell cells 3) * 4
      + bitNat (slotCell cells 4) * 8 + bitNat (slotCell cells 5) * 16 + bitNat (slotCell cells 6) * 32
      + bitNat (slotCell cells 7) * 64 + bitNat (slotCell cells 8) * 128)

/-- The slot read off a pin (R99): a slot is what SEND_BYTE produces (R104). -/
def decodeSlot (pin : Pin) (cells : BitVec 11) : Except Reject Instr :=
  if slotCell cells 0 = true then .error .startCellHigh
  else if (slotCell cells 9 && slotCell cells 10) = false then .error .stopCellLow
  else .ok (.sendByte (slotValue cells) pin)

/-- The pattern of FRAME_START at its minimum durations with `BREAK_BITS = 11`, `MAB_BITS = 13` (R102 and the table's
row): 11 low, 13 high, then the 0x00 slot. -/
def frameStartPattern : BitVec 35 := 0b00000000000111111111111100000000011#35

/-- The decoder, total on every code. -/
def decode : Code → Except Reject Instr
  | .formatH cmd => decodeCommand cmd
  | .formatE line => if line = 1#1 then .ok .tick else .error .noTickPulse
  | .formatS pin cells => decodeSlot pin cells
  | .formatF cells => if cells = frameStartPattern then .ok .frameStart else .error .notFrameStart

/-- The cells of a slot as booleans, cell 0 first: `[0, v[0], ..., v[7], 1, 1]` (30_encoding.md R99,
41_byte_transmitter.md R141). -/
def cells (v : Byte) : List Bool :=
  [false, v.getLsbD 0, v.getLsbD 1, v.getLsbD 2, v.getLsbD 3, v.getLsbD 4, v.getLsbD 5, v.getLsbD 6, v.getLsbD 7,
    true, true]

/-- A list of cells as a number, the first cell most significant. -/
def cellsNat (cs : List Bool) : Nat := cs.foldl (fun a b => 2 * a + bitNat b) 0

/-- The slot word of a byte (R99). -/
def slotWord (v : Byte) : BitVec 11 := BitVec.ofNat 11 (cellsNat (cells v))

/-- A command word from its fields (R91). -/
def commandWord (op : BitVec 4) (a b : BitVec 16) : CmdWord := op ++ a ++ b

/-- The encoder: the canonical code of an operation that has one. CHANNEL_SLOT carries a byte of the buffer and not an
operand, and ADVANCE, Start, Stop and Restart have an empty pattern: the state selects them (30_encoding.md R104). -/
def encode : Instr → Option Code
  | .write channel value => some (.formatH (commandWord 0x1#4 (BitVec.ofInt 16 channel) (BitVec.ofInt 16 value)))
  | .setcount n => some (.formatH (commandWord 0x2#4 (BitVec.ofInt 16 n) 0#16))
  | .configpins d m => some (.formatH (commandWord 0x3#4 (d.setWidth 16) (m.setWidth 16)))
  | .stop => some (.formatH (commandWord 0x4#4 0#16 0#16))
  | .tick => some (.formatE 1#1)
  | .frameStart => some (.formatF frameStartPattern)
  | .channelSlot => none
  | .sendByte value pin => some (.formatS pin (slotWord value))
  | .advance => none
  | .startProc => none
  | .stopProc => none
  | .restart => none

/-- The instruction of a decoder's answer, none where it rejects. -/
def accepted : Except Reject Instr → Option Instr
  | .ok i => some i
  | .error _ => none

/-- A 36-bit table word: a command, else the frame-start pattern, whose `op` bits are the reserved code 0x0. -/
def decodeWord36 (w : Nat) : Option Instr :=
  if w < 2 ^ 36 then
    match accepted (decode (.formatH (BitVec.ofNat 36 w))) with
    | some i => some i
    | none => if w < 2 ^ 35 then accepted (decode (.formatF (BitVec.ofNat 35 w))) else none
  else none

/-- The host's reading of a table word of `nbits` bits in whole bytes (log 12): 40 bits hold formats H (36) and F (35),
16 bits format S (11), on pin 0 since the table gives the pin no bits, and 8 bits format E (1). -/
def decodeTableWord (nbits w : Nat) : Option Instr :=
  if nbits = 40 then decodeWord36 w
  else if nbits = 16 then
    if w < 2 ^ 11 then accepted (decode (.formatS 0#8 (BitVec.ofNat 11 w))) else none
  else if nbits = 8 then
    if w < 2 then accepted (decode (.formatE (BitVec.ofNat 1 w))) else none
  else none

end Sys2Proof
end

