-- ==== Sys2Proof/Config.lean ====
section
/-! DEFINITION. The constants the source settles (00_scope.md R8) and the parameters of the step relation
(00_scope.md R7, R9 to R11; 10_state.md R39). The parameters are plain data: one block's are the field `params`
of State, which no step writes (log 1). -/

namespace Sys2Proof

/-- Bit periods of budget a channel unit costs: `SLOT_COST = 11` (00_scope.md R8). -/
def slotCost : Nat := 11

/-- Bit periods of budget the frame-start unit costs: `FRAME_START_COST = 35` (00_scope.md R8). -/
def frameStartCost : Nat := 35

/-- The start code, `START_CODE = 0x00` (00_scope.md R8, 30_encoding.md R101). -/
def startCode : Byte := 0x00#8

/-- Parameter `N`, restricted to the two values the source gives (00_scope.md R7, D4). -/
inductive BufferSize where
  | n512
  | n128
  deriving DecidableEq, Repr

/-- The number `N` of channels (00_scope.md R7). -/
def BufferSize.toNat : BufferSize → Nat
  | .n512 => 512
  | .n128 => 128

/-- The parameters of one block: constants, none changes while the block runs (10_state.md R39). -/
structure Params where
  /-- `N` (00_scope.md R7). -/
  bufferSize : BufferSize
  /-- `TICK_BUDGET`, any natural number (00_scope.md R9, D5). -/
  tickBudget : Nat
  /-- `BREAK_BITS` (00_scope.md R10, D6). -/
  breakBits : Nat
  /-- `MAB_BITS` (00_scope.md R10, D6). -/
  mabBits : Nat
  /-- `DEFAULT_DATA_PIN` (10_state.md R32, D16). -/
  defaultDataPin : Pin
  /-- `DEFAULT_MARKER_PIN` (10_state.md R32, D16). -/
  defaultMarkerPin : Pin
  /-- `PIN_CHANGE_RESTART` (40_config_commands.md R122, D12). -/
  pinChangeRestart : Bool
  /-- `CONCURRENT_HOST` (20_memory.md R71, D17). -/
  concurrentHost : Bool
  /-- `INSTANCES` (60_exceptions.md R198, D22): the blocks of the system this one is in; read by Machine/System.lean
  only. -/
  instances : Nat
  /-- `BIT_CYCLES` (00_scope.md R11): timing only. -/
  bitCycles : Nat
  /-- `F_CPU` in Hz (00_scope.md R11): timing only. -/
  fCpu : Nat
  deriving DecidableEq, Repr

/-- The number of channels `N` of a block with these parameters. -/
def Params.n (p : Params) : Nat := p.bufferSize.toNat

/-- The constraint on the two frame-start durations: `BREAK_BITS + MAB_BITS = 24` (00_scope.md R10). -/
def Params.wf (p : Params) : Bool := decide (p.breakBits + p.mabBits = 24)

/-- The fixed entry and exit overhead of SEND_BYTE in instruction cycles: the spec names it and gives no figure
(41_byte_transmitter.md R143, 91_not_in_source.md N7), so it has no value here (log 16). -/
opaque Config.slotOverheadCycles : Nat

/-- The byte a read of the Frame Buffer outside 0..N-1 answers, where 00_scope.md R14 defines none: a free value, one for
each such read (log 8). -/
opaque Config.strayByte : Nat → Byte

end Sys2Proof
end

