-- ==== Sys2Proof/Machine/Defaults.lean ====
section
/-! DEFINITION. The instance of the parameters that the host's `State.reset` uses, and the reset values of the four
registers the spec leaves unspecified (logs 2 and 3) and of the model's own counter (log 8). -/

namespace Sys2Proof.Machine

/-- The parameters of `State.reset` (log 2). From the spec: `N = 512` (R7), `BREAK_BITS = 11` and `MAB_BITS = 13`
(R10), `PIN_CHANGE_RESTART = false` (D12), `CONCURRENT_HOST = false` (D17), `INSTANCES = 1` (D22). DESIGN CHOICE: the
open parameters `TICK_BUDGET`, the default pins, `BIT_CYCLES` and `F_CPU`, with figures of the spec's own examples. -/
def defaultParams : Params where
  bufferSize := .n512
  tickBudget := 64
  breakBits := 11
  mabBits := 13
  defaultDataPin := 3#8
  defaultMarkerPin := 4#8
  pinChangeRestart := false
  concurrentHost := false
  instances := 1
  bitCycles := 64
  fCpu := 16000000

/-- DESIGN CHOICE: `BUDGET` at reset, unspecified by R38 (log 3). -/
def resetBudget : Nat := 0

/-- DESIGN CHOICE: `TXB` at reset, unspecified by R38 (log 3). -/
def resetTxb : Byte := 0#8

/-- DESIGN CHOICE: `DATAPIN_ACT` at reset, unspecified by R38 (log 3). -/
def resetDataPinAct : Pin := 0#8

/-- DESIGN CHOICE: `MARKERPIN_ACT` at reset, unspecified by R38 (log 3). -/
def resetMarkerPinAct : Pin := 0#8

/-- DESIGN CHOICE: the counter of free bytes read, the model's own field (log 8). -/
def resetStrayReads : Nat := 0

end Sys2Proof.Machine
end

