-- ==== Sys2Proof/Machine/State.lean ====
section
/-! DEFINITION. The state of one block as plain data (10_state.md R20 to R36), the reasons a step can stop, and the
state after reset (R38). -/

namespace Sys2Proof.Machine

/-- A level driven on a pin: 0 is low, 1 is high (00_scope.md R17). -/
inductive Level where
  | low
  | high
  deriving DecidableEq, Repr

/-- `DATA_LVL` and `MARKER_LVL`: Z, or the level driven (10_state.md R34). -/
inductive LineLevel where
  /-- Z: the block has not configured the pin as an output. -/
  | undriven
  | driven (l : Level)
  deriving DecidableEq, Repr

/-- How long a `SEG` item's level is held (00_scope.md R16). -/
inductive Hold where
  /-- Exactly the duration, all interrupts masked. -/
  | exact
  /-- The duration or longer. -/
  | atleast
  deriving DecidableEq, Repr

/-- A trace item (00_scope.md R17). -/
inductive TraceItem where
  /-- `OUT(p)`. -/
  | out (p : Pin)
  /-- `EDGE(p, l)`. -/
  | edge (p : Pin) (l : Level)
  /-- `SEG(p, l, d, exact)` and `SEG(p, l, d, atleast)`, `d` in bit periods. -/
  | seg (p : Pin) (l : Level) (d : Nat) (hold : Hold)
  /-- `MASK(b)`. -/
  | mask (on : Bool)
  deriving DecidableEq, Repr

/-- The micro-step of SEND_BYTE that is next, after B0 (41_byte_transmitter.md R140). -/
inductive SendPos where
  /-- B1, the start bit. -/
  | b1
  /-- B2+i, data bit `i`. -/
  | bit (i : Fin 8)
  /-- B10, the stop bits. -/
  | b10
  /-- B11, the release of the mask. -/
  | b11
  deriving DecidableEq, Repr

/-- The unit that called SEND_BYTE, to which it returns (41_byte_transmitter.md R140). -/
inductive Caller where
  | frameStart
  | channelSlot
  deriving DecidableEq, Repr

/-- The position inside a handler invocation, the hidden state of 10_state.md R36: the micro-step of
42_frame_tick.md that is next, with the locals it needs. -/
inductive EnginePos where
  /-- No invocation in progress. -/
  | idle
  /-- E1 of the entry (R151). -/
  | e1
  /-- L0, the selection and the budget check (R152, R153). -/
  | l0
  /-- F1, the break (R155). -/
  | f1
  /-- F2, the mark-after-break. -/
  | f2
  /-- F3, the call of SEND_BYTE with the start code. -/
  | f3
  /-- F4, the charge. -/
  | f4
  /-- S1, the marker edge (R156). -/
  | s1
  /-- S2, the read of the buffer. -/
  | s2
  /-- S3, the call of SEND_BYTE with the local `b`. -/
  | s3 (b : Byte)
  /-- S4, the charge. -/
  | s4
  /-- Inside SEND_BYTE with the operand `pin`. -/
  | send (next : SendPos) (pin : Pin) (caller : Caller)
  /-- A0 of ADVANCE (R157), which L1 performs after every unit. -/
  | a0
  /-- A1 of ADVANCE with the local `t`. -/
  | a1 (t : Nat)
  /-- X0, the exit (R158). -/
  | x0
  deriving DecidableEq, Repr

/-- The position inside a host command (20_memory.md R70, R71): the micro-step of 40_config_commands.md that is next,
with the operands and the local it needs. `thenStart` marks the Stop of a Restart (R126). -/
inductive HostPos where
  /-- No command in progress. -/
  | idle
  /-- W0 to W3 (R120). -/
  | w0 (channel value : Int)
  | w1 (channel value : Int)
  | w2 (channel : Int)
  | w3
  /-- C0 to C2 (R121). -/
  | c0 (n : Int)
  | c1 (n : Int)
  | c2
  /-- P0 to P3 (R122), with the local `changed` after P0. -/
  | p0 (dataPin markerPin : Pin)
  | p1 (dataPin markerPin : Pin) (changed : Bool)
  | p2 (markerPin : Pin) (changed : Bool)
  | p3 (changed : Bool)
  /-- ST1 to ST6 (R124). -/
  | st1
  | st2
  | st3
  | st4
  | st5
  | st6
  /-- SP1 to SP3 (R125). -/
  | sp1 (thenStart : Bool)
  | sp2 (thenStart : Bool)
  | sp3 (thenStart : Bool)
  deriving DecidableEq, Repr

/-- What happens next outside the block, one entry of the schedule (00_scope.md R18; log 4). -/
inductive Event where
  /-- HOST presents a command word, and the block performs the whole command with no other agent's step inside
  (30_encoding.md R106). -/
  | command (w : CmdWord)
  /-- TICKSRC issues a TICK; if it is accepted the whole invocation runs with no other agent's step inside (R106). -/
  | tick
  /-- HOST presents a command word whose micro-steps are scheduled one at a time (20_memory.md R70). -/
  | present (w : CmdWord)
  /-- TICKSRC issues a TICK whose invocation is scheduled one micro-step at a time (20_memory.md R70). -/
  | tickPulse
  /-- HOST performs its next micro-step. -/
  | hostStep
  /-- ENGINE performs its next micro-step. -/
  | engineStep
  /-- HOST performs the whole operation or procedure it is at the start of. -/
  | hostOp
  /-- ENGINE performs the whole operation it is at the start of. -/
  | engineOp
  /-- OTHERS step: an unrelated interrupt is taken (00_scope.md R18). -/
  | others
  deriving DecidableEq, Repr

/-- The state of one block. -/
@[ext]
structure State where
  /-- The parameters, constants of the block (10_state.md R39; log 1). -/
  params : Params
  /-- `buf`, the Frame Buffer (R21): index and byte, rising, no zero byte listed (log 22). -/
  buf : List Host.Cell
  /-- `ACC`, the Active Channel Count (R22). -/
  acc : Nat
  /-- `TS`, the Transmission State, the program counter (R24). -/
  ts : Nat
  /-- `BUDGET` (R25). -/
  budget : Nat
  /-- `TXB` (R26). -/
  txb : Byte
  /-- `STARTED` (R27). -/
  started : Bool
  /-- `TICK_EN` (R31). -/
  tickEn : Bool
  /-- `GUARD` (R29). -/
  guard : Bool
  /-- `IRQ_MASK` (R30). -/
  irqMask : Bool
  /-- `DATAPIN_CFG` (R32). -/
  dataPinCfg : Pin
  /-- `MARKERPIN_CFG` (R32). -/
  markerPinCfg : Pin
  /-- `DATAPIN_ACT` (R33). -/
  dataPinAct : Pin
  /-- `MARKERPIN_ACT` (R33). -/
  markerPinAct : Pin
  /-- `DATA_LVL` (R34). -/
  dataLvl : LineLevel
  /-- `MARKER_LVL` (R34). -/
  markerLvl : LineLevel
  /-- `TRACE` (R35), in the order emitted. -/
  trace : List TraceItem
  /-- The position inside a handler invocation (R36). -/
  enginePos : EnginePos
  /-- The position inside a host command (20_memory.md R71). -/
  hostPos : HostPos
  /-- What the agents do next (log 4). -/
  schedule : List Event
  /-- How many free bytes have been read, the argument of `Config.strayByte` (log 8). -/
  strayReads : Nat
  deriving DecidableEq, Repr

/-- The reasons the model stops with a fault. The block itself raises none (60_exceptions.md R180). -/
inductive Fault where
  /-- MemWrite with an address outside 0..N-1, where 00_scope.md R14 does not define it. Raised by W1 of WRITE at a
  channel W0 has refused, in no run. Safe: the model stops (log 8). -/
  | bufferIndexOutside
  deriving DecidableEq, Repr

/-- The reasons the model refuses. -/
inductive Refusal where
  /-- The instruction has no meaning yet: raised by exec alone. Safe. -/
  | notModelled (mnemonic : String)
  /-- Start with `DATAPIN_CFG = MARKERPIN_CFG`: one pin for both lines has no meaning and is to be refused
  (70_reset_and_hazards.md R227, U6, D23). Raised by ST1 of Start. Safe: the model stops (log 7). -/
  | onePinForBothLines
  deriving DecidableEq, Repr

/-- What a step, an operation or a micro-step answers. -/
abbrev Result := Host.Outcome State Fault Refusal

/-- The state after reset of a block with these parameters (10_state.md R38). -/
def State.resetWith (p : Params) : State where
  params := p
  buf := []
  acc := 0
  ts := 0
  budget := resetBudget
  txb := resetTxb
  started := false
  tickEn := false
  guard := false
  irqMask := false
  dataPinCfg := p.defaultDataPin
  markerPinCfg := p.defaultMarkerPin
  dataPinAct := resetDataPinAct
  markerPinAct := resetMarkerPinAct
  dataLvl := .undriven
  markerLvl := .undriven
  trace := []
  enginePos := .idle
  hostPos := .idle
  schedule := []
  strayReads := resetStrayReads

/-- The state after reset of the block with the instance of the parameters in Machine/Defaults.lean (log 2). -/
def State.reset : State := State.resetWith defaultParams

end Sys2Proof.Machine
end

