-- ==== Sys2Proof/Machine/Ops.lean ====
section
/-! DEFINITION. The shared operations: sequencing, assignments to the state elements, the memory primitives
(00_scope.md R14), the trace (R17), and the tick taken as an interrupt: handler entry and exit (42_frame_tick.md R151,
R158; 60_exceptions.md R185, R186). -/

namespace Sys2Proof.Machine

/-- The second operation runs on the state the first leaves; a fault or a refusal stops. -/
def andThen (r : Result) (f : State → Result) : Result :=
  match r with
  | .next s => f s
  | .fault e => .fault e
  | .refused e => .refused e

/-! ### Assignments `x <- v` (00_scope.md R13) -/

def State.setBuf (s : State) (v : List Host.Cell) : State := { s with buf := v }
def State.setAcc (s : State) (v : Nat) : State := { s with acc := v }
def State.setTs (s : State) (v : Nat) : State := { s with ts := v }
def State.setBudget (s : State) (v : Nat) : State := { s with budget := v }
def State.setTxb (s : State) (v : Byte) : State := { s with txb := v }
def State.setDataPinCfg (s : State) (v : Pin) : State := { s with dataPinCfg := v }
def State.setMarkerPinCfg (s : State) (v : Pin) : State := { s with markerPinCfg := v }
def State.setDataPinAct (s : State) (v : Pin) : State := { s with dataPinAct := v }
def State.setMarkerPinAct (s : State) (v : Pin) : State := { s with markerPinAct := v }
def State.setDataLvl (s : State) (v : LineLevel) : State := { s with dataLvl := v }
def State.setMarkerLvl (s : State) (v : LineLevel) : State := { s with markerLvl := v }
def State.setEnginePos (s : State) (v : EnginePos) : State := { s with enginePos := v }
def State.setHostPos (s : State) (v : HostPos) : State := { s with hostPos := v }
def State.setSchedule (s : State) (v : List Event) : State := { s with schedule := v }
def State.setStrayReads (s : State) (v : Nat) : State := { s with strayReads := v }

/-- `emit <item>`: append one item to TRACE (00_scope.md R17). -/
def State.emit (s : State) (item : TraceItem) : State := { s with trace := s.trace ++ [item] }

/-! ### The Frame Buffer (00_scope.md R14, 10_state.md R21) -/

/-- What an index of the list reads as: an unlisted one reads 0, the buffer's reset contents (R21). -/
def cellRead : List Host.Cell → Nat → Byte
  | [], _ => 0#8
  | (k, v) :: rest, a => if a = k then v else cellRead rest a

/-- The list with one index set, in canonical form: a zero byte is not listed. -/
def cellWrite : List Host.Cell → Nat → Byte → List Host.Cell
  | [], a, b => if b = 0#8 then [] else [(a, b)]
  | (k, v) :: rest, a, b =>
    if a < k then (if b = 0#8 then (k, v) :: rest else (a, b) :: (k, v) :: rest)
    else if a = k then (if b = 0#8 then rest else (a, b) :: rest)
    else (k, v) :: cellWrite rest a b

/-- Indices strictly rising from `lo`, all below `n`, and no zero byte listed. -/
def Memory.wfFrom (n : Nat) : Nat → List Host.Cell → Bool
  | _, [] => true
  | lo, (k, v) :: rest => decide (lo ≤ k) && decide (k < n) && decide (v ≠ 0#8) && Memory.wfFrom n (k + 1) rest

/-- The canonical form of a buffer of `n` bytes. -/
def Memory.wf (n : Nat) (m : List Host.Cell) : Bool := Memory.wfFrom n 0 m

/-- `buf[i]` (00_scope.md R13). -/
def State.bufAt (s : State) (i : Nat) : Byte := cellRead s.buf i

/-- `MemRead(addr, 1)`, defined only for `0 <= addr < N` (00_scope.md R14). -/
def memRead (s : State) (addr : Int) : Option Byte :=
  if 0 ≤ addr ∧ addr < s.params.n then some (s.bufAt addr.toNat) else none

/-- `buf[TS - 1]`, the byte S2 reads (42_frame_tick.md R156); a free byte where the index is outside 0..N-1, as TS is
when a Start falls between L0 and S2 (70_reset_and_hazards.md R229, U16; log 8). -/
def slotByte (s : State) : Byte := (memRead s ((s.ts : Int) - 1)).getD (Config.strayByte s.strayReads)

/-- Count the read of S2 if it answers a free byte, so that the next one is another (log 8). -/
def countStrayRead (s : State) : State :=
  if (memRead s ((s.ts : Int) - 1)).isNone then s.setStrayReads (s.strayReads + 1) else s

/-- `MemWrite(addr, 1, v)`, defined only for `0 <= addr < N` (00_scope.md R14). -/
def memWrite (s : State) (addr : Int) (v : Byte) : Result :=
  if 0 ≤ addr ∧ addr < s.params.n then .next (s.setBuf (cellWrite s.buf addr.toNat v))
  else .fault .bufferIndexOutside

/-! ### The lines -/

/-- Drive the data line to a level with a `SEG` item on pin `p` (42_frame_tick.md R155, 41_byte_transmitter.md R140). -/
def driveData (p : Pin) (l : Level) (d : Nat) (hold : Hold) (s : State) : State :=
  (s.emit (.seg p l d hold)).setDataLvl (.driven l)

/-- Drive the marker line to a level with an `EDGE` item on the active marker pin (42_frame_tick.md R156, R157). -/
def driveMarker (l : Level) (s : State) : State :=
  (s.emit (.edge s.markerPinAct l)).setMarkerLvl (.driven l)

/-! ### The tick taken as an interrupt -/

/-- E0 of handler entry, one micro-step with the test T0: `GUARD <- 1` (42_frame_tick.md R151). Nothing is saved
(60_exceptions.md R185). -/
def enterHandler (s : State) : State := { s with guard := true, enginePos := .e1 }

/-- E1 of handler entry: `BUDGET <- TICK_BUDGET`; control goes to the loop (R151). -/
def loadBudget (s : State) : State := (s.setBudget s.params.tickBudget).setEnginePos .l0

/-- Taking the tick: the whole handler entry (R151, R185). -/
def takeTick (s : State) : State := loadBudget (enterHandler s)

/-- `stop handler`: leave the loop and go to the exit (00_scope.md R18). -/
def stopHandler (s : State) : State := s.setEnginePos .x0

/-- X0, the handler exit and the return to the interrupted context: `GUARD <- 0`, nothing else (R158, R186). -/
def exitHandler (s : State) : State := { s with guard := false, enginePos := .idle }

end Sys2Proof.Machine
end

