-- ==== Sys2Proof/Machine/Flags.lean ====
section
/-! DEFINITION. The four one-bit status flags STARTED, TICK_EN, GUARD and IRQ_MASK (10_state.md R27 to R31) and the
tests on them. There are no condition codes and no arithmetic flags (R28). GUARD is written by handler entry and exit in
Machine/Ops.lean. -/

namespace Sys2Proof.Machine

def State.setStarted (s : State) (v : Bool) : State := { s with started := v }
def State.setTickEn (s : State) (v : Bool) : State := { s with tickEn := v }

/-- `IRQ_MASK <- b ; emit MASK(b)` (41_byte_transmitter.md R140, B0 and B11). -/
def requestMask (b : Bool) (s : State) : State := { s with irqMask := b, trace := s.trace ++ [.mask b] }

/-- T0: a tick is accepted when TICK_EN = 1 and GUARD = 0 (42_frame_tick.md R150); IRQ_MASK = 1 also prevents it
(10_state.md R30, 60_exceptions.md R182). -/
def tickAccepted (s : State) : Bool := s.tickEn && !s.guard && !s.irqMask

/-- Whether a HOST micro-step may fall here (20_memory.md R71): with CONCURRENT_HOST = false outside an invocation only;
with it true between any two engine micro-steps but not while IRQ_MASK = 1 (log 10). -/
def hostMayStep (s : State) : Bool :=
  decide (s.enginePos = .idle) || (s.params.concurrentHost && !s.irqMask)

end Sys2Proof.Machine
end

