-- ==== Sys2Proof/Machine/Lifecycle.lean ====
section
/-! DEFINITION. The procedures Start, Stop and Restart (40_config_commands.md R124 to R126), micro-step by micro-step. -/

namespace Sys2Proof.Machine

/-- ST1: latch the configured pins. Equal pins are refused, since one pin for both lines has no meaning once applied
(R122 corner (c), R227, U6; log 7). -/
def startLatch (s : State) : Result :=
  if s.dataPinCfg = s.markerPinCfg then .refused .onePinForBothLines
  else .next ((s.setDataPinAct s.dataPinCfg).setMarkerPinAct s.markerPinCfg)

/-- ST2: the data pin an output, driven high. -/
def startData (s : State) : State :=
  ((s.emit (.out s.dataPinAct)).emit (.edge s.dataPinAct .high)).setDataLvl (.driven .high)

/-- ST3: the marker pin an output, driven high. -/
def startMarker (s : State) : State :=
  ((s.emit (.out s.markerPinAct)).emit (.edge s.markerPinAct .high)).setMarkerLvl (.driven .high)

/-- Start, ST1 to ST6 (R124). -/
def startProcedure (s : State) : Result :=
  andThen (startLatch s) fun s1 => .next ((((startMarker (startData s1)).setTs 0).setStarted true).setTickEn true)

/-- Stop, SP1 to SP3 (R125). -/
def stopProcedure (s : State) : State := ((s.setTickEn false).setStarted false).setAcc 0

/-- W3 and C2: `if STARTED = 0 then call Start()`. -/
def startIfStopped (s : State) : Result := if s.started then .next s else startProcedure s

/-- The meaning of Start. -/
def execStartProc (s : State) : Result := startProcedure s

/-- The meaning of Stop. -/
def execStopProc (s : State) : Result := .next (stopProcedure s)

/-- The meaning of Restart: Stop, then Start (R126). -/
def execRestart (s : State) : Result := startProcedure (stopProcedure s)

end Sys2Proof.Machine
end

