-- ==== Sys2Proof/Machine/Operands.lean ====
section
/-! DEFINITION. The integer arithmetic on operands (30_encoding.md R105), the saturation of API integers (R93, R94), and
the forms a byte takes on the wire (41_byte_transmitter.md R141). -/

namespace Sys2Proof.Machine

/-- `clamp(v, lo, hi)` over `int` (00_scope.md R12). -/
def clamp (v lo hi : Int) : Int := if v < lo then lo else if v > hi then hi else v

/-- `clamp(value, VALUE_MIN, VALUE_MAX)` as the `u8` it fits (40_config_commands.md R120, R128). -/
def clampValue (value : Int) : Byte := BitVec.ofInt 8 (clamp value 0 255)

/-- An API integer saturated to the s16 range before encoding (30_encoding.md R93, R94). -/
def saturate16 (v : Int) : Int := clamp v (-32768) 32767

/-- The level of a bit: 1 is high (30_encoding.md R99). -/
def Level.ofBit (b : Bool) : Level := if b then .high else .low

/-- Data bit `i` of a byte as a level. -/
def bitLevel (v : Byte) (i : Nat) : Level := Level.ofBit (v.getLsbD i)

/-- `SLOT(pin, v)`: the 12 trace items of SEND_BYTE (41_byte_transmitter.md R140, R141). -/
def slotItems (pin : Pin) (v : Byte) : List TraceItem :=
  [.mask true, .seg pin .low 1 .exact,
    .seg pin (bitLevel v 0) 1 .exact, .seg pin (bitLevel v 1) 1 .exact, .seg pin (bitLevel v 2) 1 .exact,
    .seg pin (bitLevel v 3) 1 .exact, .seg pin (bitLevel v 4) 1 .exact, .seg pin (bitLevel v 5) 1 .exact,
    .seg pin (bitLevel v 6) 1 .exact, .seg pin (bitLevel v 7) 1 .exact,
    .seg pin .high 2 .exact, .mask false]

end Sys2Proof.Machine
end

