-- ==== Sys2Proof/Machine/Commands.lean ====
section
/-! DEFINITION. The host commands WRITE, SETCOUNT, CONFIGPINS and STOP (40_config_commands.md R120 to R123). -/

namespace Sys2Proof.Machine

/-- W0: whether WRITE ignores the call, `channel < 1 or channel > N` (R120). -/
def channelIgnored (channel : Int) (s : State) : Bool := decide (channel < 1) || decide (channel > s.params.n)

/-- W1: `MemWrite(channel - 1, 1, clamp(value, 0, 255))` (R120, R128). -/
def writeStore (channel value : Int) (s : State) : Result := memWrite s (channel - 1) (clampValue value)

/-- W2: `ACC <- max(ACC, channel)` (R120). -/
def writeRaise (channel : Int) (s : State) : State := s.setAcc (max s.acc channel.toNat)

/-- C1: `ACC <- min(n, N)` (R121). -/
def setCountTo (n : Int) (s : State) : State := s.setAcc (min n.toNat s.params.n)

/-- P0: whether a pin changes, tested before the assignments (R122). -/
def pinsChange (dataPin markerPin : Pin) (s : State) : Bool :=
  decide (dataPin ≠ s.dataPinCfg) || decide (markerPin ≠ s.markerPinCfg)

/-- P3: whether CONFIGPINS restarts the block, `changed` being the local of P0 (R122). -/
def pinChangeRestarts (changed : Bool) (s : State) : Bool := s.params.pinChangeRestart && s.started && changed

/-- WRITE (R120). -/
def execWrite (channel value : Int) (s : State) : Result :=
  if channelIgnored channel s then .next s
  else andThen (writeStore channel value s) fun s1 => startIfStopped (writeRaise channel s1)

/-- SETCOUNT (R121). -/
def execSetcount (n : Int) (s : State) : Result :=
  if n ≤ 0 then .next (stopProcedure s) else startIfStopped (setCountTo n s)

/-- CONFIGPINS (R122). -/
def execConfigpins (dataPin markerPin : Pin) (s : State) : Result :=
  let s2 := (s.setDataPinCfg dataPin).setMarkerPinCfg markerPin
  if pinChangeRestarts (pinsChange dataPin markerPin s) s2 then startProcedure (stopProcedure s2) else .next s2

/-- STOP (R123). -/
def execStop (s : State) : Result := .next (stopProcedure s)

end Sys2Proof.Machine
end

