-- ==== Sys2Proof/Machine/Transmitter.lean ====
section
/-! DEFINITION. The Byte Transmitter: SEND_BYTE (41_byte_transmitter.md R140), micro-step by micro-step. -/

namespace Sys2Proof.Machine

/-- B0: `TXB <- value ; IRQ_MASK <- 1 ; emit MASK(1)`. -/
def sendLatch (value : Byte) (s : State) : State := requestMask true (s.setTxb value)

/-- B1: the start bit. -/
def sendStartBit (pin : Pin) (s : State) : State := driveData pin .low 1 .exact s

/-- B2+i: data bit `i` of TXB, least significant first. -/
def sendDataBit (pin : Pin) (i : Nat) (s : State) : State := driveData pin (bitLevel s.txb i) 1 .exact s

/-- B10: the two stop bits. -/
def sendStopBits (pin : Pin) (s : State) : State := driveData pin .high 2 .exact s

/-- B11: `IRQ_MASK <- 0 ; emit MASK(0)`. -/
def sendRelease (s : State) : State := requestMask false s

/-- The eight data bits, in the order of R140. -/
def sendDataBits (pin : Pin) (s : State) : State :=
  sendDataBit pin 7 (sendDataBit pin 6 (sendDataBit pin 5 (sendDataBit pin 4
    (sendDataBit pin 3 (sendDataBit pin 2 (sendDataBit pin 1 (sendDataBit pin 0 s)))))))

/-- The whole of SEND_BYTE, B0 to B11. -/
def transmit (value : Byte) (pin : Pin) (s : State) : State :=
  sendRelease (sendStopBits pin (sendDataBits pin (sendStartBit pin (sendLatch value s))))

/-- The meaning of SEND_BYTE (R140). -/
def execSendByte (value : Byte) (pin : Pin) (s : State) : Result := .next (transmit value pin s)

end Sys2Proof.Machine
end

