-- ==== Sys2Proof/Machine/Scheduler.lean ====
section
/-! DEFINITION. The Tick Scheduler and the Frame State Machine: FRAME_START, CHANNEL_SLOT, ADVANCE and TICK
(42_frame_tick.md R150 to R158). -/

namespace Sys2Proof.Machine

/-- F1: the break. -/
def frameBreak (s : State) : State := driveData s.dataPinAct .low s.params.breakBits .atleast s

/-- F2: the mark-after-break. -/
def frameMark (s : State) : State := driveData s.dataPinAct .high s.params.mabBits .atleast s

/-- F4: `BUDGET <- BUDGET - 35`; ADVANCE is next (R152, L1). -/
def frameCharge (s : State) : State := (s.setBudget (s.budget - frameStartCost)).setEnginePos .a0

/-- S4: `BUDGET <- BUDGET - 11`; ADVANCE is next (R152, L1). -/
def slotCharge (s : State) : State := (s.setBudget (s.budget - slotCost)).setEnginePos .a0

/-- The meaning of FRAME_START (R155). With a budget below its cost the unit is deferred and the handler stops (R153;
log 15). -/
def execFrameStart (s : State) : Result :=
  if s.budget < frameStartCost then .next (stopHandler s)
  else
    let s2 := frameMark (frameBreak s)
    .next (frameCharge (transmit startCode s2.dataPinAct s2))

/-- The meaning of CHANNEL_SLOT (R156). With a budget below its cost the unit is deferred and the handler stops (R153;
log 15); no TS stops it (log 8). -/
def execChannelSlot (s : State) : Result :=
  if s.budget < slotCost then .next (stopHandler s)
  else
    let s1 := driveMarker .low s
    .next (slotCharge (transmit (slotByte s1) s1.dataPinAct (countStrayRead s1)))

/-- A1 of ADVANCE with the local `t` (R157): end the frame and stop the handler, or go on at L0. -/
def advanceTo (t : Nat) (s : State) : State :=
  if t > s.acc then stopHandler ((driveMarker .high s).setTs 0)
  else (s.setTs t).setEnginePos .l0

/-- The meaning of ADVANCE, A0 and A1 (R157). -/
def execAdvance (s : State) : Result := .next (advanceTo (s.ts + 1) s)

/-- The unit L0 selects: `TS = 0` selects FRAME_START, any other CHANNEL_SLOT (R152, D24; 30_encoding.md R104). -/
def performUnit (s : State) : Result := if s.ts = 0 then execFrameStart s else execChannelSlot s

/-- Go on with the loop unless the handler was stopped. -/
def unlessStopped (s : State) (f : State → Result) : Result := if s.enginePos = .x0 then .next s else f s

/-- The loop L0 to L2 (R152), at most `fuel` units. A unit costs at least 11 and is not begun without that budget, so
`BUDGET / 11 + 1` rounds always reach a `stop handler` of the loop's own. -/
def handlerLoop : Nat → State → Result
  | 0, s => .next (stopHandler s)
  | fuel + 1, s =>
    andThen (performUnit s) fun s1 => unlessStopped s1 fun s1 =>
      andThen (execAdvance s1) fun s2 => unlessStopped s2 (handlerLoop fuel)

/-- One handler invocation from its loop to its exit (R152, R158). -/
def runHandler (s : State) : Result :=
  andThen (handlerLoop (s.budget / slotCost + 1) s) fun s1 => .next (exitHandler s1)

/-- The meaning of TICK (R150): a tick that is not accepted changes nothing; an accepted one runs one invocation. -/
def execTick (s : State) : Result := if tickAccepted s then runHandler (takeTick s) else .next s

end Sys2Proof.Machine
end

