-- ==== Sys2Proof/Machine/Dispatch.lean ====
section
/-! DEFINITION. The meaning of every operation of the operation set (00_scope.md R2), one arm per constructor. -/

namespace Sys2Proof.Machine

def exec (i : Instr) (s : State) : Host.Outcome State Fault Refusal :=
  match i with
  | .write channel value => Sys2Proof.Machine.execWrite channel value s
  | .setcount n => Sys2Proof.Machine.execSetcount n s
  | .configpins dataPin markerPin => Sys2Proof.Machine.execConfigpins dataPin markerPin s
  | .stop => Sys2Proof.Machine.execStop s
  | .tick => Sys2Proof.Machine.execTick s
  | .frameStart => Sys2Proof.Machine.execFrameStart s
  | .channelSlot => Sys2Proof.Machine.execChannelSlot s
  | .sendByte value pin => Sys2Proof.Machine.execSendByte value pin s
  | .advance => Sys2Proof.Machine.execAdvance s
  | .startProc => Sys2Proof.Machine.execStartProc s
  | .stopProc => Sys2Proof.Machine.execStopProc s
  | .restart => Sys2Proof.Machine.execRestart s

end Sys2Proof.Machine
end

