-- ==== Sys2Proof/Machine/Micro.lean ====
section
/-! DEFINITION. The micro-steps of ENGINE and HOST one at a time (00_scope.md R13, R18; 20_memory.md R70): the same
micro-step functions the meanings are built from, sequenced by the positions in State. -/

namespace Sys2Proof.Machine

/-- The position after a micro-step of SEND_BYTE at `p`; after B11 control returns to the caller's charge. -/
def afterSend (p : SendPos) (pin : Pin) (caller : Caller) : EnginePos :=
  match p with
  | .b1 => .send (.bit 0) pin caller
  | .bit i => if h : i.val + 1 < 8 then .send (.bit ⟨i.val + 1, h⟩) pin caller else .send .b10 pin caller
  | .b10 => .send .b11 pin caller
  | .b11 =>
    match caller with
    | .frameStart => .f4
    | .channelSlot => .s4

/-- The micro-step of SEND_BYTE at `p` (41_byte_transmitter.md R140). -/
def sendMicro (p : SendPos) (pin : Pin) (s : State) : State :=
  match p with
  | .b1 => sendStartBit pin s
  | .bit i => sendDataBit pin i.val s
  | .b10 => sendStopBits pin s
  | .b11 => sendRelease s

/-- L0 as one micro-step: select the unit by TS and check the budget against its whole cost (42_frame_tick.md R152,
R153). -/
def selectUnit (s : State) : State :=
  if s.ts = 0 then (if s.budget < frameStartCost then stopHandler s else s.setEnginePos .f1)
  else (if s.budget < slotCost then stopHandler s else s.setEnginePos .s1)

/-- S2: the one read of the buffer for the slot; `b` is a local (R156). -/
def slotRead (s : State) : State := (countStrayRead s).setEnginePos (.s3 (slotByte s))

/-- ENGINE's next micro-step; an idle engine has none and nothing changes. -/
def engineMicro (s : State) : Result :=
  match s.enginePos with
  | .idle => .next s
  | .e1 => .next (loadBudget s)
  | .l0 => .next (selectUnit s)
  | .f1 => .next ((frameBreak s).setEnginePos .f2)
  | .f2 => .next ((frameMark s).setEnginePos .f3)
  | .f3 => .next ((sendLatch startCode s).setEnginePos (.send .b1 s.dataPinAct .frameStart))
  | .f4 => .next (frameCharge s)
  | .s1 => .next ((driveMarker .low s).setEnginePos .s2)
  | .s2 => .next (slotRead s)
  | .s3 b => .next ((sendLatch b s).setEnginePos (.send .b1 s.dataPinAct .channelSlot))
  | .s4 => .next (slotCharge s)
  | .send p pin caller => .next ((sendMicro p pin s).setEnginePos (afterSend p pin caller))
  | .a0 => .next (s.setEnginePos (.a1 (s.ts + 1)))
  | .a1 t => .next (advanceTo t s)
  | .x0 => .next (exitHandler s)

/-- The position after Stop's SP3: done, or Start in a Restart (40_config_commands.md R126). -/
def afterStop (thenStart : Bool) : HostPos := if thenStart then .st1 else .idle

/-- The position at the first micro-step of a host command; no other operation is a command. -/
def commandPos : Instr → HostPos
  | .write channel value => .w0 channel value
  | .setcount n => .c0 n
  | .configpins d m => .p0 d m
  | .stop => .sp1 false
  | .tick | .frameStart | .channelSlot | .sendByte _ _ | .advance | .startProc | .stopProc | .restart => .idle

/-- HOST's next micro-step; with no command in progress there is none and nothing changes. -/
def hostMicro (s : State) : Result :=
  match s.hostPos with
  | .idle => .next s
  | .w0 c v => .next (s.setHostPos (if channelIgnored c s then .idle else .w1 c v))
  | .w1 c v => andThen (writeStore c v s) fun s1 => .next (s1.setHostPos (.w2 c))
  | .w2 c => .next ((writeRaise c s).setHostPos .w3)
  | .w3 => .next (s.setHostPos (if s.started then .idle else .st1))
  | .c0 n => .next (s.setHostPos (if n ≤ 0 then .sp1 false else .c1 n))
  | .c1 n => .next ((setCountTo n s).setHostPos .c2)
  | .c2 => .next (s.setHostPos (if s.started then .idle else .st1))
  | .p0 d m => .next (s.setHostPos (.p1 d m (pinsChange d m s)))
  | .p1 d m changed => .next ((s.setDataPinCfg d).setHostPos (.p2 m changed))
  | .p2 m changed => .next ((s.setMarkerPinCfg m).setHostPos (.p3 changed))
  | .p3 changed => .next (s.setHostPos (if pinChangeRestarts changed s then .sp1 true else .idle))
  | .st1 => andThen (startLatch s) fun s1 => .next (s1.setHostPos .st2)
  | .st2 => .next ((startData s).setHostPos .st3)
  | .st3 => .next ((startMarker s).setHostPos .st4)
  | .st4 => .next ((s.setTs 0).setHostPos .st5)
  | .st5 => .next ((s.setStarted true).setHostPos .st6)
  | .st6 => .next ((s.setTickEn true).setHostPos .idle)
  | .sp1 r => .next ((s.setTickEn false).setHostPos (.sp2 r))
  | .sp2 r => .next ((s.setStarted false).setHostPos (.sp3 r))
  | .sp3 r => .next ((s.setAcc 0).setHostPos (afterStop r))

/-- `k` micro-steps of one agent with nothing in between. -/
def microRun (micro : State → Result) : Nat → State → Result
  | 0, s => .next s
  | k + 1, s => andThen (micro s) (microRun micro k)

end Sys2Proof.Machine
end

