-- ==== Sys2Proof/Machine/Schedule.lean ====
section
/-! DEFINITION. What one entry of the schedule does (20_memory.md R70, R71; 30_encoding.md R106, R109; logs 4 to 6), and
how the host places one operation where the next step runs it (log 13). -/

namespace Sys2Proof.Machine

/-- The operation ENGINE is at the start of (30_encoding.md R104), none between operations or when the budget does not
pass the check of its unit. -/
def engineSelected (s : State) : Option Instr :=
  match s.enginePos with
  | .l0 =>
    if s.ts = 0 then (if s.budget < frameStartCost then none else some .frameStart)
    else (if s.budget < slotCost then none else some .channelSlot)
  | .f3 => some (.sendByte startCode s.dataPinAct)
  | .s3 b => some (.sendByte b s.dataPinAct)
  | .a0 => some .advance
  | .idle | .e1 | .f1 | .f2 | .f4 | .s1 | .s2 | .s4 | .send _ _ _ | .a1 _ | .x0 => none

/-- Where SEND_BYTE returns to when it is performed whole; the other engine operations set the position themselves. -/
def afterEngineOp (s : State) : State :=
  match s.enginePos with
  | .f3 => s.setEnginePos .f4
  | .s3 _ => s.setEnginePos .s4
  | _ => s

/-- The operation or procedure HOST is at the start of (40_config_commands.md R120 to R126). -/
def hostSelected (s : State) : Option Instr :=
  match s.hostPos with
  | .w0 c v => some (.write c v)
  | .c0 n => some (.setcount n)
  | .p0 d m => some (.configpins d m)
  | .st1 => some .startProc
  | .sp1 false => some .stopProc
  | .sp1 true => some .restart
  | .idle | .w1 _ _ | .w2 _ | .w3 | .c1 _ | .c2 | .p1 _ _ _ | .p2 _ _ | .p3 _
  | .st2 | .st3 | .st4 | .st5 | .st6 | .sp2 _ | .sp3 _ => none

/-- ENGINE performs the whole operation at its position, else one micro-step. -/
def engineOperation (s : State) : Result :=
  match engineSelected s with
  | some i => andThen (exec i s) fun s1 => .next (afterEngineOp s1)
  | none => engineMicro s

/-- HOST performs the whole operation at its position, else one micro-step. -/
def hostOperation (s : State) : Result :=
  match hostSelected s with
  | some i => andThen (exec i s) fun s1 => .next (s1.setHostPos .idle)
  | none => hostMicro s

/-- While an entry of the schedule cannot happen yet, what is in progress goes on: the invocation first, since the
background context preempts the foreground one (20_memory.md R71), else the command (30_encoding.md R109). With nothing
in progress nothing changes. -/
def goOn (s : State) : Result := if s.enginePos = .idle then hostMicro s else engineMicro s

/-- A command word taken whole (30_encoding.md R106); a reserved one is ignored (R97). -/
def runCommand (w : CmdWord) (s : State) : Result :=
  match decode (.formatH w) with
  | .ok i => exec i s
  | .error _ => .next s

/-- A command word whose micro-steps are scheduled one at a time; a reserved one is ignored (R97). -/
def beginCommand (w : CmdWord) (s : State) : State :=
  match decode (.formatH w) with
  | .ok i => s.setHostPos (commandPos i)
  | .error _ => s

/-- A TICK whose invocation is scheduled one micro-step at a time: T0 with E0 (42_frame_tick.md R150, R151). -/
def pulseTick (s : State) : State := if tickAccepted s then enterHandler s else s

/-- Whether an entry of the schedule can happen in this state (20_memory.md R71, 30_encoding.md R109): a HOST step where
R71 lets one fall, a new command word only after the last micro-step of the one before, and OTHERS only while
IRQ_MASK = 0. -/
def admissible (e : Event) (s : State) : Bool :=
  match e with
  | .command _ | .present _ => hostMayStep s && decide (s.hostPos = .idle)
  | .hostStep | .hostOp => hostMayStep s
  | .others => !s.irqMask
  | .tick | .tickPulse | .engineStep | .engineOp => true

/-- What an admissible entry of the schedule does. -/
def perform (e : Event) (s : State) : Result :=
  match e with
  | .command w => runCommand w s
  | .tick => exec .tick s
  | .present w => .next (beginCommand w s)
  | .tickPulse => .next (pulseTick s)
  | .hostStep => hostMicro s
  | .engineStep => engineMicro s
  | .hostOp => hostOperation s
  | .engineOp => engineOperation s
  | .others => .next s

/-- The head of the schedule happens if it can; until then, and when the schedule is empty, what is in progress goes
on. -/
def scheduled (s : State) : Result :=
  match s.schedule with
  | [] => goOn s
  | e :: rest => if admissible e s then perform e (s.setSchedule rest) else goOn s

/-- The state with the operation `i` placed where the next step runs it, whole (log 13). `w` is its command word, for
the four host commands. -/
def placeInstr (i : Instr) (w : CmdWord) (s : State) : State :=
  match i with
  | .write _ _ | .setcount _ | .configpins _ _ | .stop =>
    { s with hostPos := .idle, enginePos := .idle, schedule := .command w :: s.schedule }
  | .tick => { s with schedule := .tick :: s.schedule }
  | .frameStart =>
    { s with enginePos := .l0, guard := true, ts := 0, budget := max s.budget frameStartCost,
             schedule := .engineOp :: s.schedule }
  | .channelSlot =>
    { s with enginePos := .l0, guard := true, ts := max s.ts 1, budget := max s.budget slotCost,
             schedule := .engineOp :: s.schedule }
  | .sendByte value pin =>
    { s with enginePos := .s3 value, guard := true, dataPinAct := pin, schedule := .engineOp :: s.schedule }
  | .advance => { s with enginePos := .a0, guard := true, schedule := .engineOp :: s.schedule }
  | .startProc => { s with enginePos := .idle, hostPos := .st1, schedule := .hostOp :: s.schedule }
  | .stopProc => { s with enginePos := .idle, hostPos := .sp1 false, schedule := .hostOp :: s.schedule }
  | .restart => { s with enginePos := .idle, hostPos := .sp1 true, schedule := .hostOp :: s.schedule }

/-- The host's placement of a table word: the operation it decodes to, else, for a reserved command word, the word on
the command port. -/
def placeWord (nbits w : Nat) (s : State) : State :=
  match decodeTableWord nbits w with
  | some i => placeInstr i (BitVec.ofNat 36 w) s
  | none =>
    if nbits = 40 then
      { s with hostPos := .idle, enginePos := .idle, schedule := .command (BitVec.ofNat 36 w) :: s.schedule }
    else s

end Sys2Proof.Machine
end

