-- ==== Sys2Proof/Machine/Step.lean ====
section
/-! DEFINITION. One step of the block, and the host's placement of the next operation. -/

namespace Sys2Proof.Machine

/-- One step: the head of the schedule, or what is in progress (Machine/Schedule.lean). -/
def step (s : State) : Host.Outcome State Fault Refusal := scheduled s

/-- `s` with the table word `w` of `nbits` bits placed where `step` takes its next operation (log 13). -/
def State.withFetchWord (s : State) (nbits w : Nat) : State := placeWord nbits w s

end Sys2Proof.Machine
end

