-- ==== Sys2Proof/Machine/Assembler.lean ====
section
/-! DEFINITION. The API calls and the assembler (30_encoding.md R93, R94, R106, R107): what a test program is written in,
and the schedule it stands for. The spec gives the statements and their operands; the lexical points it is silent on are
the model's choices (log 25). -/

namespace Sys2Proof.Machine

/-- `write(channel, value)` with API integers of any size, saturated before encoding (R93). -/
def apiWrite (channel value : Int) : Instr := .write (saturate16 channel) (saturate16 value)

/-- `setActiveChannelCount(n)` (R94). -/
def apiSetActiveChannelCount (n : Int) : Instr := .setcount (saturate16 n)

/-- `configurePins(dataPin, markerPin)` (R107). -/
def apiConfigurePins (dataPin markerPin : Pin) : Instr := .configpins dataPin markerPin

/-- A statement (R106, R107). -/
inductive Statement where
  | write (channel value : Int)
  | setcount (n : Int)
  | configpins (dataPin markerPin : Pin)
  | stop
  /-- `TICK k`; plain `TICK` is `TICK 1`. -/
  | tick (k : Nat)
  deriving DecidableEq, Repr

/-- The command of an instruction as the one event that presents its canonical word. -/
def commandEvents (i : Instr) : List Event :=
  match encode i with
  | some (.formatH w) => [.command w]
  | some (.formatE _) => [.tick]
  | some (.formatS _ _) => []
  | some (.formatF _) => []
  | none => []

/-- The events of a statement: one canonical command word, or `k` tick events (R106, R107). -/
def Statement.events : Statement → List Event
  | .write channel value => commandEvents (apiWrite channel value)
  | .setcount n => commandEvents (apiSetActiveChannelCount n)
  | .configpins d m => commandEvents (apiConfigurePins d m)
  | .stop => commandEvents .stop
  | .tick k => List.replicate k .tick

/-- The schedule of a program: its statements in order, each to completion before the next (R106). -/
def assemble (program : List Statement) : List Event := program.flatMap Statement.events

/-- A decimal or hexadecimal digit. DESIGN CHOICE: a hexadecimal digit in either case (log 25). -/
def digitValue (c : Char) : Option Nat :=
  if 48 ≤ c.toNat ∧ c.toNat ≤ 57 then some (c.toNat - 48)
  else if 97 ≤ c.toNat ∧ c.toNat ≤ 102 then some (c.toNat - 87)
  else if 65 ≤ c.toNat ∧ c.toNat ≤ 70 then some (c.toNat - 55)
  else none

/-- Digits of a base, on top of the value read so far. -/
def digitsFrom (base : Nat) : Nat → List Char → Option Nat
  | acc, [] => some acc
  | acc, c :: rest =>
    match digitValue c with
    | some d => if d < base then digitsFrom base (base * acc + d) rest else none
    | none => none

/-- A number of at least one digit. -/
def parseNat (base : Nat) (cs : List Char) : Option Nat := if cs = [] then none else digitsFrom base 0 cs

/-- An operand: decimal with an optional leading `-`, or hexadecimal with `0x` (R106). -/
def parseInt : List Char → Option Int
  | '-' :: ds => (parseNat 10 ds).map fun k : Nat => -(k : Int)
  | '0' :: 'x' :: hs => (parseNat 16 hs).map Int.ofNat
  | ds => (parseNat 10 ds).map Int.ofNat

/-- DESIGN CHOICE: a blank is a space or a tab (log 25). -/
def isBlank (c : Char) : Bool := decide (c = ' ') || decide (c = '\t')

/-- The text without the blanks before it. -/
def trimStart (cs : List Char) : List Char := cs.dropWhile isBlank

/-- The text without the blanks around it. -/
def trimBlanks (cs : List Char) : List Char := (trimStart (trimStart cs).reverse).reverse

/-- The parts of a text between the separators, at least one. -/
def splitParts (separator : Char) : List Char → List (List Char)
  | [] => [[]]
  | c :: rest =>
    if c = separator then [] :: splitParts separator rest
    else
      match splitParts separator rest with
      | first :: more => (c :: first) :: more
      | [] => [[c]]

/-- The operands of a statement's text, none where one is no integer. DESIGN CHOICE: blanks may stand around each
(log 25). -/
def parseOperands (cs : List Char) : Option (List Int) :=
  if trimBlanks cs = [] then some [] else (splitParts ',' cs).mapM fun part => parseInt (trimBlanks part)

/-- A pin operand, 0 to 255 (R106). -/
def pinOperand (v : Int) : Option Pin := if 0 ≤ v ∧ v ≤ 255 then some (BitVec.ofInt 8 v) else none

/-- A signed operand, −32768 to 32767 (R106). -/
def s16Operand (v : Int) : Option Int := if inS16 v then some v else none

/-- The statement of a mnemonic and its operands. -/
def makeStatement (mnemonic : List Char) (operands : List Int) : Option Statement :=
  if mnemonic = ['W', 'R', 'I', 'T', 'E'] then
    match operands with
    | [c, v] => do some (.write (← s16Operand c) (← s16Operand v))
    | _ => none
  else if mnemonic = ['S', 'E', 'T', 'C', 'O', 'U', 'N', 'T'] then
    match operands with
    | [n] => do some (.setcount (← s16Operand n))
    | _ => none
  else if mnemonic = ['C', 'O', 'N', 'F', 'I', 'G', 'P', 'I', 'N', 'S'] then
    match operands with
    | [d, m] => do some (.configpins (← pinOperand d) (← pinOperand m))
    | _ => none
  else if mnemonic = ['S', 'T', 'O', 'P'] then (if operands = [] then some .stop else none)
  else if mnemonic = ['T', 'I', 'C', 'K'] then
    match operands with
    | [] => some (.tick 1)
    | [k] => if 0 ≤ k then some (.tick k.toNat) else none
    | _ => none
  else none

/-- The mnemonic an API spelling is a synonym of (R107). -/
def apiMnemonic (name : List Char) : Option (List Char) :=
  if name = ['w', 'r', 'i', 't', 'e'] then some ['W', 'R', 'I', 'T', 'E']
  else if name =
    ['s', 'e', 't', 'A', 'c', 't', 'i', 'v', 'e', 'C', 'h', 'a', 'n', 'n', 'e', 'l', 'C', 'o', 'u',
     'n', 't']
    then some ['S', 'E', 'T', 'C', 'O', 'U', 'N', 'T']
  else if name = ['c', 'o', 'n', 'f', 'i', 'g', 'u', 'r', 'e', 'P', 'i', 'n', 's']
    then some ['C', 'O', 'N', 'F', 'I', 'G', 'P', 'I', 'N', 'S']
  else none

/-- The mnemonic and the operand text of `MNEMONIC operands`. DESIGN CHOICE: a mnemonic is upper case, and a blank stands
between it and its operands (log 25). -/
def splitMnemonic (text : List Char) : Option (List Char × List Char) :=
  let operands := text.dropWhile Char.isUpper
  if operands ≠ [] ∧ trimStart operands = operands then none else some (text.takeWhile Char.isUpper, operands)

/-- The mnemonic and the operand text of an API call, `inner` being what follows its opening parenthesis (R107). DESIGN
CHOICE: blanks may stand before that parenthesis and after the closing one (log 25). -/
def splitCall (name inner : List Char) : Option (List Char × List Char) :=
  match trimStart inner.reverse with
  | ')' :: operands => (apiMnemonic (trimBlanks name)).map fun mnemonic => (mnemonic, operands.reverse)
  | _ => none

/-- The mnemonic and the operand text of a statement, a call being another spelling of its command (R106, R107). -/
def splitStatement (text : List Char) : Option (List Char × List Char) :=
  match text.dropWhile fun c => c ≠ '(' with
  | [] => splitMnemonic text
  | _ :: inner => splitCall (text.takeWhile fun c => c ≠ '(') inner

/-- The statement of a text. -/
def parseStatement (text : List Char) : Option Statement := do
  let (mnemonic, operands) ← splitStatement text
  makeStatement mnemonic (← parseOperands operands)

/-- A line of a program: a `;` starts a comment, and a text that is no statement is rejected (R106). DESIGN CHOICE: an
empty line, or one of a comment alone, is no statement (log 25). -/
def parseLine (line : List Char) : Option (List Statement) :=
  let text := trimStart (line.takeWhile fun c => c ≠ ';')
  if text = [] then some [] else (parseStatement text).map fun statement => [statement]

/-- A program's text, one statement a line (R106). DESIGN CHOICE: a line ends at a line feed, and one line that is
rejected rejects the program (log 25). -/
def parseProgram (text : List Char) : Option (List Statement) :=
  ((splitParts '\n' text).mapM parseLine).map List.flatten

end Sys2Proof.Machine
end

