-- ==== Sys2Proof/Machine/System.lean ====
section
/-! DEFINITION. Several blocks (60_exceptions.md R198, D22; log 17): a list of independent instances, each owning its
own state, command port, pins and TRACE. -/

namespace Sys2Proof.Machine

/-- The parameters of a system's blocks, in their order: `INSTANCES` is how many they are (R198). -/
def systemParamsWf (params : List Params) : Bool := params.all fun p => decide (p.instances = params.length)

/-- The reset state of a system: each block as after its own reset. DESIGN CHOICE: each block has parameters of its own,
equal or not, where the spec does not say whether the instances of a system share them (log 17). -/
def systemReset (params : List Params) : List State := params.map State.resetWith

/-- Block `k` of a system takes one step; no other block is touched (R198). -/
def systemStep (k : Nat) (blocks : List State) : Host.Outcome (List State) Fault Refusal :=
  match blocks[k]? with
  | none => .next blocks
  | some s =>
    match step s with
    | .next t => .next (blocks.set k t)
    | .fault e => .fault e
    | .refused e => .refused e

end Sys2Proof.Machine
end

