-- ==== Sys2Proof/Machine/Observation.lean ====
section
/-! DEFINITION. What a trace shows: when two traces are the same observation (00_scope.md R17), the levels of a line bit
period by bit period (41_byte_transmitter.md R141), the frame as a list of trace items (30_encoding.md R102, R103;
42_frame_tick.md R160), and the number of invocations a frame takes (R161). -/

namespace Sys2Proof.Machine

/-- Put an item before a merged trace: adjacent `SEG` items of the same pin, level and kind add their durations. -/
def mergeItem (item : TraceItem) (rest : List TraceItem) : List TraceItem :=
  match item, rest with
  | .seg p l d h, .seg p' l' d' h' :: tail =>
    if p = p' ∧ l = l' ∧ h = h' then .seg p l (d + d') h :: tail else .seg p l d h :: .seg p' l' d' h' :: tail
  | item, rest => item :: rest

/-- The trace with its adjacent `SEG` items merged (R17). -/
def observation (t : List TraceItem) : List TraceItem := t.foldr mergeItem []

/-- Two traces are the same observation (R17). -/
abbrev sameObservation (t u : List TraceItem) : Prop := observation t = observation u

/-- Whether a level held for `actual` bit periods is what a `SEG` item allows (00_scope.md R16). DESIGN CHOICE: `actual`,
of which the spec says any value at or above the minimum (U10), is a rational number of bit periods (log 20). -/
def Hold.allows (h : Hold) (d : Nat) (actual : Rat) : Bool :=
  match h with
  | .exact => decide (actual = d)
  | .atleast => decide ((d : Rat) ≤ actual)

/-- The `SEG` items on a pin, expanded to one level per bit period of their stated durations (R141). -/
def segLevels (pin : Pin) : List TraceItem → List Level
  | [] => []
  | .seg p l d _ :: rest => if p = pin then List.replicate d l ++ segLevels pin rest else segLevels pin rest
  | .out _ :: rest => segLevels pin rest
  | .edge _ _ :: rest => segLevels pin rest
  | .mask _ :: rest => segLevels pin rest

/-- The level an item drives on a pin, none where it names no level of it. -/
def itemLevel (pin : Pin) : TraceItem → Option Level
  | .edge p l => if p = pin then some l else none
  | .seg p l _ _ => if p = pin then some l else none
  | .out _ => none
  | .mask _ => none

/-- The level of the last item that drives the pin (10_state.md R34). -/
def lastLevel (pin : Pin) (t : List TraceItem) : Option Level :=
  t.foldl (fun last item => (itemLevel pin item).or last) none

/-- The items of a frame-start unit (42_frame_tick.md R155). -/
def frameStartItems (p : Params) (pin : Pin) : List TraceItem :=
  .seg pin .low p.breakBits .atleast :: .seg pin .high p.mabBits .atleast :: slotItems pin startCode

/-- The items of a channel unit (R156). -/
def channelItems (dataPin markerPin : Pin) (v : Byte) : List TraceItem := .edge markerPin .low :: slotItems dataPin v

/-- The items of the channel units `k + 1` to `k + m` of a frame, in increasing order (30_encoding.md R102). -/
def channelsItems (s : State) (k : Nat) : Nat → List TraceItem
  | 0 => []
  | m + 1 => channelItems s.dataPinAct s.markerPinAct (cellRead s.buf k) ++ channelsItems s (k + 1) m

/-- The whole frame of the state's buffer and count: the frame-start unit, channels 1 to ACC, and the marker raised at
the end (R102, R103, R160). -/
def frameItems (s : State) : List TraceItem :=
  frameStartItems s.params s.dataPinAct ++ channelsItems s 0 s.acc ++ [.edge s.markerPinAct .high]

/-- Channel units that fit in the tick of the frame-start unit, `c1 = floor((T - 35) / 11)` (R161). -/
def firstTickChannels (T : Nat) : Nat := (T - frameStartCost) / slotCost

/-- Channel units that fit in a tick of channel units only, `c = floor(T / 11)` (R161). -/
def laterTickChannels (T : Nat) : Nat := T / slotCost

/-- The handler invocations of a frame of `A` channels: `1` if `A <= c1`, else `1 + ceil((A - c1) / c)` (R161). -/
def frameInvocations (T A : Nat) : Nat :=
  if A ≤ firstTickChannels T then 1
  else 1 + (A - firstTickChannels T + laterTickChannels T - 1) / laterTickChannels T

end Sys2Proof.Machine
end

