-- ==== Sys2Proof/Machine/Timing.lean ====
section
/-! DEFINITION. What the spec says about time (70_reset_and_hazards.md R240, R241; 41_byte_transmitter.md R143). No step
reads any of it (log 16). -/

namespace Sys2Proof.Machine

/-- Nominal length of a bit period in microseconds, 1/250000 s (00_scope.md R11). -/
def bitPeriodMicros : Nat := 4

/-- The stated duration of an item in bit periods; only `SEG` items have one (R17). -/
def itemBits : TraceItem → Nat
  | .seg _ _ d _ => d
  | .out _ => 0
  | .edge _ _ => 0
  | .mask _ => 0

/-- The stated durations of a trace together: the least time it takes, idle times left out. -/
def traceBits (t : List TraceItem) : Nat := (t.map itemBits).sum

/-- Nominal wire time of a trace in microseconds (R240). -/
def nominalMicros (t : List TraceItem) : Nat := bitPeriodMicros * traceBits t

/-- Instruction cycles of a SEND_BYTE that emitted these items: `BIT_CYCLES` for each bit period and the fixed overhead
(R143). -/
def sendByteCycles (p : Params) (items : List TraceItem) : Nat :=
  p.bitCycles * traceBits items + Config.slotOverheadCycles

/-- `clock / 250000`, the cycles of a bit period before the loop overhead is taken off (R241). The spec says
"approximately" and has no exact formula (00_scope.md R11). DESIGN CHOICE: a clock that is no multiple of 250000 Hz is
rounded down (log 24). -/
def cyclesPerBitPeriod (fCpu : Nat) : Nat := fCpu / 250000

end Sys2Proof.Machine
end

