-- ==== Sys2Proof/Safety.lean ====
section
/-! DEFINITION. What holds in every state of a run (10_state.md R37, R34), and the states of runs. -/

namespace Sys2Proof.Machine

/-- Inside SEND_BYTE, from its first to its last micro-step (10_state.md R30). -/
def EnginePos.inSlot : EnginePos → Bool
  | .send _ _ _ => true
  | _ => false

/-- The budget the unit in progress has still to charge (42_frame_tick.md R155, R156). -/
def EnginePos.charge : EnginePos → Nat
  | .f1 | .f2 | .f3 | .f4 => frameStartCost
  | .send _ _ .frameStart => frameStartCost
  | .s1 | .s2 | .s3 _ | .s4 => slotCost
  | .send _ _ .channelSlot => slotCost
  | _ => 0

/-- Between handler entry and handler exit, BUDGET loaded (R37 I4). -/
def EnginePos.budgetLive : EnginePos → Bool
  | .idle | .e1 => false
  | _ => true

/-- Before the read of the buffer in a channel unit (R37 I3). -/
def EnginePos.beforeRead : EnginePos → Bool
  | .s1 | .s2 => true
  | _ => false

/-- Where the data line may be low: after the break and before the mark-after-break, and inside SEND_BYTE after the
start bit and before the stop bits (R37 I7). -/
def EnginePos.dataMayBeLow : EnginePos → Bool
  | .f2 => true
  | .send (.bit _) _ _ => true
  | .send .b10 _ _ => true
  | _ => false

/-- The operand conditions a command's earlier micro-steps have established (40_config_commands.md R120, R121). -/
def HostPos.operandsOk (n : Nat) : HostPos → Bool
  | .w1 c _ => decide (1 ≤ c) && decide (c ≤ n)
  | .w2 c => decide (1 ≤ c) && decide (c ≤ n)
  | .c1 m => decide (1 ≤ m)
  | _ => true

/-- Inside Start (40_config_commands.md R124). -/
def HostPos.inStart : HostPos → Bool
  | .st1 | .st2 | .st3 | .st4 | .st5 | .st6 => true
  | _ => false

/-- Inside Stop, its first micro-step done (40_config_commands.md R125). -/
def HostPos.inStop : HostPos → Bool
  | .sp2 _ | .sp3 _ => true
  | _ => false

/-- STARTED and TICK_EN at every position of HOST: equal outside Start and Stop (R37 I6). -/
def HostPos.lifecycleOk (started tickEn : Bool) : HostPos → Bool
  | .st1 | .st2 | .st3 | .st4 | .st5 => !started && !tickEn
  | .st6 => started && !tickEn
  | .sp2 _ => !tickEn
  | .sp3 _ => !started && !tickEn
  | _ => started == tickEn

/-- After ST2 of Start, which drives the data line (R124). -/
def HostPos.dataDriven : HostPos → Bool
  | .st3 | .st4 | .st5 | .st6 => true
  | _ => false

/-- After ST3 of Start, which drives the marker line (R124). -/
def HostPos.markerDriven : HostPos → Bool
  | .st4 | .st5 | .st6 => true
  | _ => false

/-- Whether the block runs: started, its tick source enabled, or inside an invocation. -/
def running (s : State) : Prop := s.started = true ∨ s.tickEn = true ∨ s.enginePos ≠ .idle

/-- The invariant of every run (10_state.md R37), with what a step needs to keep it. -/
structure Inv (s : State) : Prop where
  /-- `BREAK_BITS + MAB_BITS = 24` (00_scope.md R10). -/
  params : s.params.wf = true
  /-- The buffer is canonical and inside 0..N-1. -/
  buffer : Memory.wf s.params.n s.buf = true
  /-- I1. -/
  acc : s.acc ≤ s.params.n
  /-- I2. -/
  ts : s.ts ≤ s.params.n
  /-- I3; with a concurrent host Start may clear TS in between (U16). -/
  readIndex : s.params.concurrentHost = false → s.enginePos.beforeRead = true → 1 ≤ s.ts
  /-- I4. -/
  budget : s.enginePos.budgetLive = true → s.budget ≤ s.params.tickBudget
  /-- A committed unit's cost is still in the budget (R153). -/
  charge : s.enginePos.charge ≤ s.budget
  /-- I5, exactly: IRQ_MASK = 1 inside SEND_BYTE and nowhere else. -/
  mask : s.irqMask = s.enginePos.inSlot
  /-- I8, exactly: GUARD = 1 inside an invocation and nowhere else. -/
  guard : s.guard = true ↔ s.enginePos ≠ .idle
  /-- I6. -/
  lifecycle : s.hostPos.lifecycleOk s.started s.tickEn = true
  /-- The operands of a command in progress. -/
  operands : s.hostPos.operandsOk s.params.n = true
  /-- I7: the data line is low only inside FRAME_START or SEND_BYTE. -/
  dataHigh : s.dataLvl = .driven .low → s.enginePos.dataMayBeLow = true
  /-- A running block drives its data line. -/
  dataDriven : running s ∨ s.hostPos.dataDriven = true → s.dataLvl ≠ .undriven
  /-- A running block drives its marker line. -/
  markerDriven : running s ∨ s.hostPos.markerDriven = true → s.markerLvl ≠ .undriven
  /-- Once applied the two pins differ (U6). -/
  pinsDiffer : s.dataLvl ≠ .undriven ∨ s.hostPos = .st2 → s.dataPinAct ≠ s.markerPinAct

/-- The line level a pin's last level in a trace stands for (10_state.md R34). -/
def levelOf : Option Level → LineLevel
  | none => .undriven
  | some l => .driven l

/-- The pin of a slot in progress. -/
def EnginePos.slotPin : EnginePos → Option Pin
  | .send _ pin _ => some pin
  | _ => none

/-- DATA_LVL and MARKER_LVL are redundant with TRACE (10_state.md R34), but for the micro-steps between ST1, which
changes the pins, and ST2 and ST3, which drive them. The host is not concurrent (R229). -/
structure LevelsFollowTrace (s : State) : Prop where
  sequential : s.params.concurrentHost = false
  startAlone : s.hostPos.inStart = true → s.enginePos = .idle
  slotPin : ∀ pin, s.enginePos.slotPin = some pin → pin = s.dataPinAct
  data : s.hostPos ≠ .st2 → s.dataLvl = levelOf (lastLevel s.dataPinAct s.trace)
  marker : s.hostPos ≠ .st2 → s.hostPos ≠ .st3 → s.markerLvl = levelOf (lastLevel s.markerPinAct s.trace)

/-- The states of the runs of a block with these parameters, whatever the agents do (any schedule). -/
inductive Reachable (p : Params) : State → Prop where
  | reset (schedule : List Event) : Reachable p ((State.resetWith p).setSchedule schedule)
  | step (s t : State) : Reachable p s → step s = .next t → Reachable p t

end Sys2Proof.Machine
end

