-- ==== Sys2Proof/Certificates/Slice0/Obligations.lean ====
section
/-! DEFINITION. The statements for the provers, one def per obligation; OBLIGATIONS.json lists them. -/

open Sys2Proof Sys2Proof.Machine

/-! ### Encodings -/

/-- Words written out bit by bit from 30_encoding.md sections 1 to 6 and 95_test_vectors.md V1, V12, V15, V26, V47, V54
decode to the operations they stand for. -/
def Obligations.SampleWordsDecode : Prop :=
  decode (.formatH 0x10001000A#36) = .ok (.write 1 10) ∧
  decode (.formatH 0x1FFFF0005#36) = .ok (.write (-1) 5) ∧
  decode (.formatH 0x2FFFF0000#36) = .ok (.setcount (-1)) ∧
  decode (.formatH 0x3AB07CD04#36) = .ok (.configpins 7#8 4#8) ∧
  decode (.formatH 0x4DEADBEEF#36) = .ok .stop ∧
  decode (.formatE 1#1) = .ok .tick ∧
  decode (.formatS 3#8 0b00101000011#11) = .ok (.sendByte 0x0A#8 3#8) ∧
  decode (.formatF 0b00000000000111111111111100000000011#35) = .ok .frameStart

/-- Every well-formed instruction that has a code is read back from it, with every operand at every value the encoding
admits (30_encoding.md sections 1 to 6); and the instructions without a code are five: the four whose pattern section 7
leaves empty, and CHANNEL_SLOT, whose row has the pattern of a slot and which the model gives no code of its own
(log 12, the model's choice). -/
def Obligations.DecodeUndoesEncode : Prop :=
  (∀ i : Instr, i.wf = true → ∀ c, encode i = some c → decode c = .ok i) ∧
  (∀ i : Instr, encode i = none ↔
    i = .channelSlot ∨ i = .advance ∨ i = .startProc ∨ i = .stopProc ∨ i = .restart)

/-- Every code the decoder accepts stands for a well-formed instruction and is, but for the operand bits the layout
table of format H marks ignored, that instruction's own code (30_encoding.md section 1, its layout table, and sections
4 to 6). -/
def Obligations.CodesHaveOneMeaning : Prop :=
  (∀ c i, decode c = .ok i → i.wf = true) ∧
  (∀ pin cells i, decode (.formatS pin cells) = .ok i → encode i = some (.formatS pin cells)) ∧
  (∀ line i, decode (.formatE line) = .ok i → encode i = some (.formatE line)) ∧
  (∀ cells i, decode (.formatF cells) = .ok i → encode i = some (.formatF cells)) ∧
  (∀ a b, ∃ i, decode (.formatH (commandWord 0x1#4 a b)) = .ok i ∧
    encode i = some (.formatH (commandWord 0x1#4 a b))) ∧
  (∀ a b, ∃ i, decode (.formatH (commandWord 0x2#4 a b)) = .ok i ∧
    encode i = some (.formatH (commandWord 0x2#4 a 0#16))) ∧
  (∀ a b, ∃ i, decode (.formatH (commandWord 0x3#4 a b)) = .ok i ∧
    encode i = some (.formatH (commandWord 0x3#4 (a &&& 0x00FF#16) (b &&& 0x00FF#16)))) ∧
  (∀ a b, ∃ i, decode (.formatH (commandWord 0x4#4 a b)) = .ok i ∧
    encode i = some (.formatH (commandWord 0x4#4 0#16 0#16)))

/-- A command word of `op` 0x0 or 0x5 to 0xF selects no command: the decoder rejects it by name, and presenting it,
whole or micro-step by micro-step, changes nothing but the schedule it is taken from. That such a word is ignored is
30_encoding.md section 3, a decision of the spec (D3); the rejection by name is the model's (log 14), and so is the
schedule the word is taken from (log 4). -/
def Obligations.ReservedWordsIgnored : Prop :=
  ∀ (op : BitVec 4) (a b : BitVec 16), op = 0x0#4 ∨ 0x5#4 ≤ op →
    decode (.formatH (commandWord op a b)) = .error (.reservedOp op) ∧
    ∀ (s : State) (rest : List Event), hostMayStep s = true → s.hostPos = .idle →
      (s.schedule = .command (commandWord op a b) :: rest → step s = .next { s with schedule := rest }) ∧
      (s.schedule = .present (commandWord op a b) :: rest → step s = .next { s with schedule := rest })

/-- STOP has no operands: both operand fields are not read. -/
def Obligations.StopWordReadsNoOperand : Prop :=
  ∀ a b : BitVec 16, decode (.formatH (commandWord 0x4#4 a b)) = .ok .stop

/-- SETCOUNT does not read field B, and CONFIGPINS reads the low bytes of its fields only (30_encoding.md section 2;
the field types are the spec's decision D2). -/
def Obligations.IgnoredOperandBits : Prop :=
  (∀ a b : BitVec 16, decode (.formatH (commandWord 0x2#4 a b)) = .ok (.setcount a.toInt)) ∧
  (∀ a b : BitVec 16, decode (.formatH (commandWord 0x3#4 a b)) =
    .ok (.configpins (BitVec.ofNat 8 (a.toNat % 256)) (BitVec.ofNat 8 (b.toNat % 256))))

/-- The slot: cell 0 is 0, cell `1 + i` is bit `i` of the byte, cells 9 and 10 are 1; the items SEND_BYTE appends drive
these cells on its pin, one bit period each, exactly; the receiver's sum inverts it, and eleven cells with that first and
those last cells are the slot of the byte the receiver reads. -/
def Obligations.SlotCells : Prop :=
  (∀ (v : Byte) (pin : Pin),
    encode (.sendByte v pin) = some (.formatS pin (slotWord v)) ∧
    slotCell (slotWord v) 0 = false ∧
    (∀ i, i < 8 → slotCell (slotWord v) (1 + i) = v.getLsbD i) ∧
    slotCell (slotWord v) 9 = true ∧ slotCell (slotWord v) 10 = true ∧
    v.toNat = ((List.range 8).map fun i => bitNat (slotCell (slotWord v) (1 + i)) * 2 ^ i).sum ∧
    (∀ s : State, ∃ items : List TraceItem,
      exec (.sendByte v pin) s = .next { s with
        txb := v, irqMask := false, dataLvl := .driven .high, trace := s.trace ++ items } ∧
      segLevels pin items =
        (List.range 11).map (fun k => if slotCell (slotWord v) k then Level.high else Level.low) ∧
      (∀ p l d h, TraceItem.seg p l d h ∈ items → p = pin ∧ h = .exact))) ∧
  (∀ (pin : Pin) (w : BitVec 11),
    slotCell w 0 = false → slotCell w 9 = true → slotCell w 10 = true →
      ∃ v : Byte, w = slotWord v ∧ decode (.formatS pin w) = .ok (.sendByte v pin))

/-- An API integer of any size, saturated to the s16 range before encoding, gives the result of the integer itself
(30_encoding.md section 2, an inference of the spec from `N <= 512`). -/
def Obligations.SaturationKeepsTheResult : Prop :=
  (∀ (c v : Int) (s : State), (apiWrite c v).wf = true ∧ exec (apiWrite c v) s = exec (.write c v) s) ∧
  (∀ (n : Int) (s : State), (apiSetActiveChannelCount n).wf = true ∧
    exec (apiSetActiveChannelCount n) s = exec (.setcount n) s)

/-- A statement of a program assembles to the canonical word of its command, the one `encode` gives, which decodes to it,
or to tick events; `SETCOUNT 0` is a different word from STOP (30_encoding.md section 9, the spec's own form, D1). -/
def Obligations.AssembledCommandsDecode : Prop :=
  (∀ c v : Int, inS16 c = true → inS16 v = true →
    ∃ w, Statement.events (.write c v) = [.command w] ∧ encode (.write c v) = some (.formatH w) ∧
      decode (.formatH w) = .ok (.write c v)) ∧
  (∀ n : Int, inS16 n = true →
    ∃ w, Statement.events (.setcount n) = [.command w] ∧ encode (.setcount n) = some (.formatH w) ∧
      decode (.formatH w) = .ok (.setcount n)) ∧
  (∀ d m : Pin,
    ∃ w, Statement.events (.configpins d m) = [.command w] ∧ encode (.configpins d m) = some (.formatH w) ∧
      decode (.formatH w) = .ok (.configpins d m)) ∧
  (∃ w, Statement.events .stop = [.command w] ∧ encode .stop = some (.formatH w) ∧
    decode (.formatH w) = .ok .stop ∧ Statement.events (.setcount 0) ≠ [.command w]) ∧
  (∀ k, Statement.events (.tick k) = List.replicate k .tick) ∧
  (∀ p q : List Statement, assemble (p ++ q) = assemble p ++ assemble q)

/-- The API spellings are synonyms: `write(c, v)` reads as `WRITE c, v`, `setActiveChannelCount(n)` as `SETCOUNT n`,
`configurePins(d, m)` as `CONFIGPINS d, m`, and there are no others. Whatever text stands for the operands (one without a
`;`, which begins a comment, or a `(`, which is in no operand), both spellings are read or rejected alike; and each reads
as its statement when its operands are texts of integers in range. 30_encoding.md section 9; where blanks may stand is
the model's choice (log 25). -/
def Obligations.ApiSpellingsAreSynonyms : Prop :=
  (∀ name mnemonic : List Char, apiMnemonic name = some mnemonic ↔
    (name = ['w', 'r', 'i', 't', 'e'] ∧ mnemonic = ['W', 'R', 'I', 'T', 'E']) ∨
    (name = ['s', 'e', 't', 'A', 'c', 't', 'i', 'v', 'e', 'C', 'h', 'a', 'n', 'n', 'e', 'l', 'C', 'o', 'u',
      'n', 't'] ∧
      mnemonic = ['S', 'E', 'T', 'C', 'O', 'U', 'N', 'T']) ∨
    (name = ['c', 'o', 'n', 'f', 'i', 'g', 'u', 'r', 'e', 'P', 'i', 'n', 's'] ∧
      mnemonic = ['C', 'O', 'N', 'F', 'I', 'G', 'P', 'I', 'N', 'S'])) ∧
  (∀ name mnemonic operands : List Char, apiMnemonic name = some mnemonic → (∀ x ∈ operands, x ≠ ';' ∧ x ≠ '(') →
    parseLine (name ++ '(' :: (operands ++ [')'])) = parseLine (mnemonic ++ ' ' :: operands)) ∧
  (∀ (a b : List Char) (c v : Int), parseInt a = some c → parseInt b = some v → inS16 c = true → inS16 v = true →
    parseLine (['w', 'r', 'i', 't', 'e'] ++ '(' :: (a ++ ',' :: b ++ [')'])) = some [.write c v]) ∧
  (∀ (a : List Char) (n : Int), parseInt a = some n → inS16 n = true →
    parseLine (['s', 'e', 't', 'A', 'c', 't', 'i', 'v', 'e', 'C', 'h', 'a', 'n', 'n', 'e', 'l', 'C', 'o', 'u',
      'n', 't']
      ++ '(' :: (a ++ [')'])) = some [.setcount n]) ∧
  (∀ (a b : List Char) (d m : Pin), parseInt a = some (d.toNat : Int) → parseInt b = some (m.toNat : Int) →
    parseLine (['c', 'o', 'n', 'f', 'i', 'g', 'u', 'r', 'e', 'P', 'i', 'n', 's'] ++ '(' :: (a ++ ',' :: b ++ [')'])) =
      some [.configpins d m])

/-! ### SEND_BYTE -/

/-- SEND_BYTE completes in every state. It latches the byte, ends with IRQ_MASK = 0 and the data line high, appends its
twelve items, whose durations are 11 bit periods together, and changes nothing else. Its first micro-step latches the
byte and sets IRQ_MASK, and both callers set its pin to the active data pin. -/
def Obligations.SendByteRule : Prop :=
  (∀ (value : Byte) (pin : Pin) (s : State), ∃ items : List TraceItem,
    exec (.sendByte value pin) s = .next { s with
      txb := value, irqMask := false, dataLvl := .driven .high, trace := s.trace ++ items } ∧
    items =
      [TraceItem.mask true, .seg pin .low 1 .exact]
        ++ (List.range 8).map (fun i => .seg pin (if value.getLsbD i then .high else .low) 1 .exact)
        ++ [.seg pin .high 2 .exact, .mask false] ∧
    items.length = 12 ∧ traceBits items = 11) ∧
  (∀ s : State, s.enginePos = .f3 → engineMicro s = .next { s with
    txb := 0x00#8, irqMask := true, enginePos := .send .b1 s.dataPinAct .frameStart,
    trace := s.trace ++ [.mask true] }) ∧
  (∀ (s : State) (b : Byte), s.enginePos = .s3 b → engineMicro s = .next { s with
    txb := b, irqMask := true, enginePos := .send .b1 s.dataPinAct .channelSlot,
    trace := s.trace ++ [.mask true] })

/-- The charge for a slot is 11 bit periods, the slot's duration; the caller makes it, and SEND_BYTE neither reads nor
writes BUDGET. -/
def Obligations.SlotCostIsTheCallersCharge : Prop :=
  slotCost = 11 ∧
  (∀ (v : Byte) (pin : Pin), traceBits (slotItems pin v) = slotCost) ∧
  (∀ (v : Byte) (pin : Pin) (s : State) (b : Nat), ∃ t : State,
    exec (.sendByte v pin) s = .next t ∧ t.budget = s.budget ∧
    exec (.sendByte v pin) { s with budget := b } = .next { t with budget := b }) ∧
  (∀ s t : State, slotCost ≤ s.budget → exec .channelSlot s = .next t → t.budget = s.budget - slotCost) ∧
  (∀ s t : State, 24 + slotCost ≤ s.budget → exec .frameStart s = .next t → t.budget = s.budget - (24 + slotCost))

/-! ### The units and ADVANCE -/

/-- FRAME_START completes when BUDGET is at least 35: break, mark-after-break, the slot of 0x00, 35 charged, nothing
else changed, and ADVANCE next. 42_frame_tick.md section FRAME_START; that "release" drives the line high is an
inference of the spec, and the position `a0` is the model's (log 23). -/
def Obligations.FrameStartResult : Prop :=
  ∀ s : State, 35 ≤ s.budget →
    exec .frameStart s = .next { s with
      budget := s.budget - 35, txb := 0x00#8, irqMask := false, dataLvl := .driven .high, enginePos := .a0,
      trace := s.trace
        ++ [.seg s.dataPinAct .low s.params.breakBits .atleast, .seg s.dataPinAct .high s.params.mabBits .atleast]
        ++ slotItems s.dataPinAct 0x00#8 }

/-- CHANNEL_SLOT completes when BUDGET is at least 11 and TS is in 1..N: the marker is driven low, the byte of channel
TS is sent, 11 charged, and nothing but the position inside the invocation changes besides. The byte is read once: the
slot that begins at S3 carries the local `b`, whatever the buffer holds by then. -/
def Obligations.ChannelSlotRule : Prop :=
  (∀ s : State, 11 ≤ s.budget → 1 ≤ s.ts → s.ts ≤ s.params.n → ∃ next : EnginePos,
    exec .channelSlot s = .next { s with
      budget := s.budget - 11, txb := s.bufAt (s.ts - 1), irqMask := false, dataLvl := .driven .high,
      markerLvl := .driven .low, enginePos := next,
      trace := s.trace ++ [.edge s.markerPinAct .low] ++ slotItems s.dataPinAct (s.bufAt (s.ts - 1)) }) ∧
  (∀ (s : State) (b : Byte), s.enginePos = .s3 b → ∃ next : EnginePos,
    engineMicro s = .next { s with
      txb := b, irqMask := true, enginePos := next, trace := s.trace ++ [.mask true] })

/-- CHANNEL_SLOT completes where TS is no channel too, as it is when a concurrent Start clears TS between L0 and S2: it
sends a free byte, `Config.strayByte` at the count of such reads, whatever that byte is, and everything else is as with a
channel; S2 by itself reads that byte. That the spec defines no such read is 00_scope.md section 5; that the unit goes on
is 60_exceptions.md section 1; the free byte and its counter are the model's (log 8). -/
def Obligations.ChannelSlotReadsFreeByte : Prop :=
  (∀ s : State, 11 ≤ s.budget → s.ts < 1 ∨ s.params.n < s.ts → ∃ b : Byte, b = Config.strayByte s.strayReads ∧
    exec .channelSlot s = .next { s with
      budget := s.budget - 11, txb := b, irqMask := false, dataLvl := .driven .high, markerLvl := .driven .low,
      enginePos := .a0, strayReads := s.strayReads + 1,
      trace := s.trace ++ [.edge s.markerPinAct .low] ++ slotItems s.dataPinAct b }) ∧
  (∀ s : State, s.enginePos = .s2 → s.ts < 1 ∨ s.params.n < s.ts →
    engineMicro s = .next { s with
      enginePos := .s3 (Config.strayByte s.strayReads), strayReads := s.strayReads + 1 })

/-- A unit whose cost is above BUDGET is not begun: nothing is emitted, TS and everything else stay, and the handler
goes to its exit. 42_frame_tick.md section TICK; that the operation itself answers so is the model's (log 15). -/
def Obligations.UnitDeferred : Prop :=
  (∀ s : State, s.budget < 35 → exec .frameStart s = .next { s with enginePos := .x0 }) ∧
  (∀ s : State, s.budget < 11 → exec .channelSlot s = .next { s with enginePos := .x0 }) ∧
  (∀ s : State, s.enginePos = .l0 → s.ts = 0 → s.budget < 35 → engineMicro s = .next { s with enginePos := .x0 }) ∧
  (∀ s : State, s.enginePos = .l0 → s.ts ≠ 0 → s.budget < 11 → engineMicro s = .next { s with enginePos := .x0 })

/-- ADVANCE completes in every state: if `TS + 1` exceeds ACC the marker is driven high, TS is 0 and the handler stops,
even if budget remains; otherwise TS is `TS + 1` and the loop goes on. Nothing else changes. -/
def Obligations.AdvanceRule : Prop :=
  ∀ s : State,
    (s.acc < s.ts + 1 → exec .advance s = .next { s with
      ts := 0, markerLvl := .driven .high, enginePos := .x0, trace := s.trace ++ [.edge s.markerPinAct .high] }) ∧
    (s.ts + 1 ≤ s.acc → exec .advance s = .next { s with ts := s.ts + 1, enginePos := .l0 })

/-- One round of the loop, a committed unit and its ADVANCE, completes whatever TS is and moves TS on as the state machine
says: `0 -> 1`, `k -> k + 1`, and to 0 past ACC, where the handler stops. 42_frame_tick.md, its loop and its section on
the state machine as a whole; a TS above ACC is the spec's decision D24. -/
def Obligations.UnitThenAdvance : Prop :=
  ∀ s : State, (s.ts = 0 → 35 ≤ s.budget) → (s.ts ≠ 0 → 11 ≤ s.budget) →
    ∃ t : State, andThen (performUnit s) (exec .advance) = .next t ∧
      t.ts = (if s.ts + 1 ≤ s.acc then s.ts + 1 else 0) ∧
      t.budget = s.budget - (if s.ts = 0 then 35 else 11) ∧
      (t.enginePos = .x0 ↔ s.acc < s.ts + 1) ∧ (t.enginePos = .l0 ↔ s.ts + 1 ≤ s.acc) ∧
      t.acc = s.acc ∧ t.buf = s.buf

/-! ### Start, Stop, Restart -/

/-- Start completes when the two configured pins differ: it latches them, makes both outputs, drives both high, sets TS
to 0 and enables the ticks. 40_config_commands.md section Start, beyond the source's sentence the spec's decision D13. -/
def Obligations.StartResult : Prop :=
  ∀ s : State, s.dataPinCfg ≠ s.markerPinCfg →
    exec .startProc s = .next { s with
      dataPinAct := s.dataPinCfg, markerPinAct := s.markerPinCfg, dataLvl := .driven .high, markerLvl := .driven .high,
      ts := 0, started := true, tickEn := true,
      trace := s.trace ++ [.out s.dataPinCfg, .edge s.dataPinCfg .high, .out s.markerPinCfg,
        .edge s.markerPinCfg .high] }

/-- Stop completes in every state: ticks disabled, stopped, the count 0, nothing else changed. 40_config_commands.md
section Stop, "nothing else" being the spec's decision D14. -/
def Obligations.StopResult : Prop :=
  ∀ s : State, exec .stopProc s = .next { s with tickEn := false, started := false, acc := 0 }

/-- Restart is Stop, then Start: it completes when the configured pins differ, with the count 0 and the block started on
them. 40_config_commands.md rule of Restart, the spec's decision D12. -/
def Obligations.RestartResult : Prop :=
  ∀ s : State,
    exec .restart s = andThen (exec .stopProc s) (exec .startProc) ∧
    (s.dataPinCfg ≠ s.markerPinCfg →
      exec .restart s = .next { s with
        dataPinAct := s.dataPinCfg, markerPinAct := s.markerPinCfg, dataLvl := .driven .high,
        markerLvl := .driven .high, ts := 0, started := true, tickEn := true, acc := 0,
        trace := s.trace ++ [.out s.dataPinCfg, .edge s.dataPinCfg .high, .out s.markerPinCfg,
          .edge s.markerPinCfg .high] })

/-- One pin for both lines is refused where Start would apply it, in each of the operations that call Start, and by none
of them else. 70_reset_and_hazards.md on one pin for both lines, U6 and D23; that Start is where the model refuses is
its own choice (log 7). -/
def Obligations.OnePinRefused : Prop :=
  ∀ s : State,
    (exec .startProc s = .refused .onePinForBothLines ↔ s.dataPinCfg = s.markerPinCfg) ∧
    (exec .restart s = .refused .onePinForBothLines ↔ s.dataPinCfg = s.markerPinCfg) ∧
    (∀ c v : Int, exec (.write c v) s = .refused .onePinForBothLines ↔
      1 ≤ c ∧ c ≤ s.params.n ∧ s.started = false ∧ s.dataPinCfg = s.markerPinCfg) ∧
    (∀ n : Int, exec (.setcount n) s = .refused .onePinForBothLines ↔
      0 < n ∧ s.started = false ∧ s.dataPinCfg = s.markerPinCfg) ∧
    (∀ d m : Pin, exec (.configpins d m) s = .refused .onePinForBothLines ↔
      s.params.pinChangeRestart = true ∧ s.started = true ∧ (d ≠ s.dataPinCfg ∨ m ≠ s.markerPinCfg) ∧ d = m)

/-! ### The host commands -/

/-- WRITE completes: with a channel outside 1..N it changes nothing, a stopped block staying stopped; inside, it stores
the clamped value, raises the count to at least the channel, and starts a stopped block whose configured pins differ.
40_config_commands.md section WRITE; that an ignored call starts nothing is the spec's decision D9, the order D10, what
Start does D13. -/
def Obligations.WriteResult : Prop :=
  ∀ (c v : Int) (s : State),
    (c < 1 ∨ s.params.n < c → exec (.write c v) s = .next s) ∧
    (1 ≤ c → c ≤ s.params.n → s.started = true →
      exec (.write c v) s = .next { s with
        buf := cellWrite s.buf (c - 1).toNat (clampValue v), acc := max s.acc c.toNat }) ∧
    (1 ≤ c → c ≤ s.params.n → s.started = false → s.dataPinCfg ≠ s.markerPinCfg →
      exec (.write c v) s = .next { s with
        buf := cellWrite s.buf (c - 1).toNat (clampValue v), acc := max s.acc c.toNat,
        dataPinAct := s.dataPinCfg, markerPinAct := s.markerPinCfg, dataLvl := .driven .high,
        markerLvl := .driven .high, ts := 0, started := true, tickEn := true,
        trace := s.trace ++ [.out s.dataPinCfg, .edge s.dataPinCfg .high, .out s.markerPinCfg,
          .edge s.markerPinCfg .high] })

/-- What WRITE leaves of memory: the byte at index `channel - 1`, the address W1 stores to, reads as the value clamped to
0..255, and every other index reads as before; a WRITE out of range changes no byte. BUDGET, TXB, GUARD, IRQ_MASK and
the configured pins stay. The buffer is in its canonical form (log 22). 40_config_commands.md section WRITE and its
section on loads and stores. -/
def Obligations.WriteFrame : Prop :=
  ∀ (c v : Int) (s t : State), Memory.wf s.params.n s.buf = true → exec (.write c v) s = .next t →
    Memory.wf t.params.n t.buf = true ∧
    (1 ≤ c → c ≤ s.params.n → memRead t (c - 1) =
      some (if v < 0 then 0#8 else if 255 < v then 255#8 else BitVec.ofInt 8 v)) ∧
    (∀ a : Int, ¬ (1 ≤ c ∧ c ≤ s.params.n ∧ a = c - 1) → memRead t a = memRead s a) ∧
    t.budget = s.budget ∧ t.txb = s.txb ∧ t.guard = s.guard ∧ t.irqMask = s.irqMask ∧
    t.dataPinCfg = s.dataPinCfg ∧ t.markerPinCfg = s.markerPinCfg ∧ t.enginePos = s.enginePos ∧
    s.acc ≤ t.acc

/-- SETCOUNT: a count at or below 0 is Stop and completes; a positive one sets ACC to `min(n, N)` and completes on a
started block, and on a stopped one goes on as Start. Its word is op 0x2 with the count in field A. -/
def Obligations.SetcountRule : Prop :=
  (∀ a b : BitVec 16, decode (.formatH (commandWord 0x2#4 a b)) = .ok (.setcount a.toInt)) ∧
  ∀ (n : Int) (s : State),
    (n ≤ 0 → exec (.setcount n) s = exec .stopProc s ∧
      exec (.setcount n) s = .next { s with tickEn := false, started := false, acc := 0 }) ∧
    (0 < n → s.started = true → exec (.setcount n) s = .next { s with acc := min n.toNat s.params.n }) ∧
    (0 < n → s.started = false → exec (.setcount n) s = exec .startProc { s with acc := min n.toNat s.params.n })

/-- A positive SETCOUNT completes on a stopped block whose configured pins differ: it sets the count and starts the block.
40_config_commands.md sections SETCOUNT and Start; what Start does is the spec's decision D13. -/
def Obligations.SetcountStarts : Prop :=
  ∀ (n : Int) (s : State), 0 < n → s.started = false → s.dataPinCfg ≠ s.markerPinCfg →
    exec (.setcount n) s = .next { s with
      acc := min n.toNat s.params.n,
      dataPinAct := s.dataPinCfg, markerPinAct := s.markerPinCfg, dataLvl := .driven .high,
      markerLvl := .driven .high, ts := 0, started := true, tickEn := true,
      trace := s.trace ++ [.out s.dataPinCfg, .edge s.dataPinCfg .high, .out s.markerPinCfg,
        .edge s.markerPinCfg .high] }

/-- CONFIGPINS writes the two configured pins and completes; with PIN_CHANGE_RESTART = true, on a started block and with
a pin that changes, it then restarts the block on them and completes when they differ. 40_config_commands.md section
CONFIGPINS, with the spec's decision D12. -/
def Obligations.ConfigpinsResult : Prop :=
  ∀ (d m : Pin) (s : State),
    (s.params.pinChangeRestart = false ∨ s.started = false ∨ (d = s.dataPinCfg ∧ m = s.markerPinCfg) →
      exec (.configpins d m) s = .next { s with dataPinCfg := d, markerPinCfg := m }) ∧
    (s.params.pinChangeRestart = true → s.started = true → d ≠ s.dataPinCfg ∨ m ≠ s.markerPinCfg →
      exec (.configpins d m) s = exec .restart { s with dataPinCfg := d, markerPinCfg := m } ∧
      (d ≠ m → ∃ t, exec (.configpins d m) s = .next t ∧ t.acc = 0 ∧ t.ts = 0 ∧ t.started = true ∧
        t.dataPinAct = d ∧ t.markerPinAct = m ∧ t.buf = s.buf ∧
        t.trace = s.trace ++ [.out d, .edge d .high, .out m, .edge m .high]))

/-- STOP, op 0x4, is a call of Stop and completes in every state: ticks disabled, stopped, the count 0 and nothing else
changed. On a stopped block it changes nothing, and it is identical in effect to SETCOUNT of a count at or below 0. -/
def Obligations.StopRule : Prop :=
  (∀ a b : BitVec 16, decode (.formatH (commandWord 0x4#4 a b)) = .ok .stop) ∧
  (∀ s : State, exec .stop s = exec .stopProc s ∧
    exec .stop s = .next { s with tickEn := false, started := false, acc := 0 }) ∧
  (∀ s : State, s.tickEn = false → s.started = false → s.acc = 0 → exec .stop s = .next s) ∧
  (∀ (n : Int) (s : State), n ≤ 0 → exec .stop s = exec (.setcount n) s)

/-- With PIN_CHANGE_RESTART = false new pins do not reach a running engine: a tick after CONFIGPINS does exactly what it
does without it. 70_reset_and_hazards.md on a pin change while running; the latch is the spec's decision D11. -/
def Obligations.NewPinsWaitForStart : Prop :=
  ∀ (d m : Pin) (s : State), s.params.pinChangeRestart = false →
    andThen (exec (.configpins d m) s) (exec .tick) =
      andThen (exec .tick s) (fun t => .next { t with dataPinCfg := d, markerPinCfg := m })

/-! ### Frames over the operation set -/

/-- Which state each operation that stores nothing leaves: all of memory reads as before, and the parameters, the
schedule and the host's position are no operation's to change. CHANNEL_SLOT reads memory and writes none
(40_config_commands.md section on loads and stores; 20_memory.md section 4). -/
def Obligations.OnlyWriteStores : Prop :=
  ∀ (i : Instr) (s t : State), exec i s = .next t →
    t.params = s.params ∧ t.schedule = s.schedule ∧ t.hostPos = s.hostPos ∧
    ((∀ c v, i ≠ .write c v) → t.buf = s.buf ∧ ∀ a : Int, memRead t a = memRead s a)

/-- The access rights of 10_state.md section 11, an inference of the spec: the engine's operations and micro-steps never
write the buffer, ACC, STARTED, TICK_EN or a pin register; the host's never write BUDGET, TXB, GUARD or IRQ_MASK, nor the
position inside an invocation or the model's count of free bytes (logs 23 and 8). -/
def Obligations.AccessRights : Prop :=
  (∀ (i : Instr) (s t : State),
    i = .tick ∨ i = .frameStart ∨ i = .channelSlot ∨ (∃ v p, i = .sendByte v p) ∨ i = .advance →
    exec i s = .next t →
      t.buf = s.buf ∧ t.acc = s.acc ∧ t.started = s.started ∧ t.tickEn = s.tickEn ∧ t.dataPinCfg = s.dataPinCfg ∧
      t.markerPinCfg = s.markerPinCfg ∧ t.dataPinAct = s.dataPinAct ∧ t.markerPinAct = s.markerPinAct) ∧
  (∀ s t : State, engineMicro s = .next t →
      t.buf = s.buf ∧ t.acc = s.acc ∧ t.started = s.started ∧ t.tickEn = s.tickEn ∧ t.dataPinCfg = s.dataPinCfg ∧
      t.markerPinCfg = s.markerPinCfg ∧ t.dataPinAct = s.dataPinAct ∧ t.markerPinAct = s.markerPinAct) ∧
  (∀ (i : Instr) (s t : State),
    (∃ c v, i = .write c v) ∨ (∃ n, i = .setcount n) ∨ (∃ d m, i = .configpins d m) ∨ i = .stop ∨ i = .startProc ∨
      i = .stopProc ∨ i = .restart →
    exec i s = .next t →
      t.budget = s.budget ∧ t.txb = s.txb ∧ t.guard = s.guard ∧ t.irqMask = s.irqMask ∧ t.enginePos = s.enginePos ∧
      t.strayReads = s.strayReads) ∧
  (∀ s t : State, hostMicro s = .next t →
      t.budget = s.budget ∧ t.txb = s.txb ∧ t.guard = s.guard ∧ t.irqMask = s.irqMask ∧ t.enginePos = s.enginePos ∧
      t.strayReads = s.strayReads)

/-- Only an in-range WRITE, a positive SETCOUNT and the procedures Start and Restart start a stopped block; an
out-of-range WRITE, CONFIGPINS, TICK and the rest do not wake it (60_exceptions.md section 10). -/
def Obligations.OnlyWriteAndSetcountStart : Prop :=
  ∀ (i : Instr) (s t : State), exec i s = .next t → s.started = false → t.started = true →
    (∃ c v, i = .write c v ∧ 1 ≤ c ∧ c ≤ s.params.n) ∨ (∃ n, i = .setcount n ∧ 0 < n) ∨ i = .startProc ∨
      i = .restart

/-- A stopped block that is not woken stays stopped and emits nothing, whatever the next entry of the schedule is but a
WRITE in range or a positive SETCOUNT (60_exceptions.md section 10; that a tick then is ignored is decision D25). -/
def Obligations.StoppedBlockStaysSilent : Prop :=
  ∀ s t : State, s.started = false → s.tickEn = false → s.hostPos = .idle → s.enginePos = .idle →
    (∀ w rest, s.schedule = .command w :: rest →
      (∀ c v, decode (.formatH w) = .ok (.write c v) → c < 1 ∨ s.params.n < c) ∧
      (∀ n, decode (.formatH w) = .ok (.setcount n) → n ≤ 0)) →
    step s = .next t →
      t.trace = s.trace ∧ t.started = false ∧ t.tickEn = false ∧ t.enginePos = .idle ∧ t.guard = s.guard ∧
      t.irqMask = s.irqMask ∧ t.buf = s.buf ∧ t.ts = s.ts

/-- TRACE is only appended to, and the parameters never change, whatever a step does (00_scope.md section 5 on the wire
trace; 10_state.md section 11). -/
def Obligations.TraceOnlyGrows : Prop :=
  ∀ s t : State, step s = .next t → t.params = s.params ∧ ∃ items, t.trace = s.trace ++ items

/-! ### The tick -/

/-- A tick that finds ticks disabled, an invocation in progress or interrupts masked is dropped and not remembered: the
state is the same, however many there are. 42_frame_tick.md section TICK; a tick of a stopped block is decision D25. -/
def Obligations.DroppedTicksLeaveNoTrace : Prop :=
  ∀ (s : State) (k : Nat), s.tickEn = false ∨ s.guard = true ∨ s.irqMask = true →
    microRun (exec .tick) k s = .next s ∧ microRun (fun u => .next (pulseTick u)) k s = .next s

/-- Handler entry and exit: the accepting micro-step sets GUARD in the same instant, so that a second tick is dropped;
the next loads BUDGET; nothing is saved and nothing else changes. The exit clears GUARD and does nothing else.
42_frame_tick.md section TICK and 60_exceptions.md section 4; the exit not writing TICK_EN is decision D8. -/
def Obligations.HandlerEntryAndExit : Prop :=
  (∀ s : State, tickAccepted s = true →
    pulseTick s = { s with guard := true, enginePos := .e1 } ∧
    pulseTick (pulseTick s) = pulseTick s ∧
    exec .tick (pulseTick s) = .next (pulseTick s) ∧
    engineMicro (pulseTick s) =
      .next { s with guard := true, budget := s.params.tickBudget, enginePos := .l0 }) ∧
  (∀ s : State, s.enginePos = .x0 → engineMicro s = .next { s with guard := false, enginePos := .idle })

/-- An accepted tick completes: its invocation reaches the exit with GUARD = 0, IRQ_MASK = 0, the data line as high as
it was, BUDGET at most TICK_BUDGET and TS in 0..N. It emits whole units from TS on, as many as the budget covers and the
frame has left, then the closing edge if the frame has none left: from TS = 0 the frame-start unit, if the budget covers
it, and channels 1 to `m`; from another TS the channels TS to `TS + m - 1`, at least channel TS itself being left even if
TS exceeds ACC (the spec's decision D24). So it emits at most `1 + floor(TICK_BUDGET / 11)` slots, each masked window
closed again, and at most one break; and it changes no state of the host's. 42_frame_tick.md, section TICK and section
ADVANCE (the next frame begins on a later tick); the numbers of units are inferences of the spec. -/
def Obligations.TickCompletes : Prop :=
  ∀ s : State, tickAccepted s = true → s.acc ≤ s.params.n → s.ts ≤ s.params.n → s.dataLvl = .driven .high →
    ∃ (t : State) (items : List TraceItem), exec .tick s = .next t ∧ t.trace = s.trace ++ items ∧
      t.guard = false ∧ t.enginePos = .idle ∧ t.irqMask = false ∧ t.dataLvl = .driven .high ∧
      t.budget ≤ s.params.tickBudget ∧ t.ts ≤ s.params.n ∧
      (s.ts = 0 → s.params.tickBudget < 35 → items = [] ∧ t.ts = 0 ∧ t.budget = s.params.tickBudget) ∧
      (s.ts = 0 → 35 ≤ s.params.tickBudget → ∃ m, m = min ((s.params.tickBudget - 35) / 11) s.acc ∧
        items = frameStartItems s.params s.dataPinAct ++ channelsItems s 0 m
          ++ (if m = s.acc then [.edge s.markerPinAct .high] else []) ∧
        t.ts = (if m = s.acc then 0 else m + 1) ∧ t.budget = s.params.tickBudget - 35 - 11 * m) ∧
      (s.ts ≠ 0 → ∃ m left, left = max (s.acc + 1 - s.ts) 1 ∧ m = min (s.params.tickBudget / 11) left ∧
        items = channelsItems s (s.ts - 1) m ++ (if m = left then [.edge s.markerPinAct .high] else []) ∧
        t.ts = (if m = left then 0 else s.ts + m) ∧ t.budget = s.params.tickBudget - 11 * m) ∧
      items.count (.mask true) ≤ 1 + s.params.tickBudget / 11 ∧
      items.count (.mask false) = items.count (.mask true) ∧
      items.count (.seg s.dataPinAct .low s.params.breakBits .atleast) ≤ 1 ∧
      t.buf = s.buf ∧ t.acc = s.acc ∧ t.started = s.started ∧ t.tickEn = s.tickEn ∧ t.params = s.params ∧
      t.dataPinCfg = s.dataPinCfg ∧ t.markerPinCfg = s.markerPinCfg ∧
      t.dataPinAct = s.dataPinAct ∧ t.markerPinAct = s.markerPinAct ∧
      t.hostPos = s.hostPos ∧ t.schedule = s.schedule ∧ t.strayReads = s.strayReads

/-- A handler invocation always reaches its exit, from whichever of its micro-steps and whatever TS is: no micro-step of
ENGINE stops, and with the units its budget still covers the engine is idle again, GUARD 0, after a bounded number of
them; and whatever the host, the ticks and the other interrupts do in between, a run that goes on for that number of
steps and the entries of its schedule has the invocation ended. 60_exceptions.md section 4, an inference of the spec from
the loop's budget check; the schedule is the model's form (log 4). -/
def Obligations.InvocationReachesItsExit : Prop :=
  (∀ s : State, ∃ t, engineMicro s = .next t) ∧
  ∀ (s : State) (k : Nat), s.enginePos ≠ .idle → k = 18 * (max s.budget s.params.tickBudget / 11 + 3) →
    (∃ t, microRun engineMicro k s = .next t ∧ t.enginePos = .idle ∧ t.guard = false) ∧
    (s.guard = true → ∀ u, microRun step (s.schedule.length + k) s = .next u →
      ∃ j, j ≤ s.schedule.length + k ∧ ∃ t, microRun step j s = .next t ∧ t.enginePos = .idle ∧ t.guard = false)

/-- A budget too small for the next unit: the tick is accepted and the invocation enters and exits with no emission and
TS as it was. 42_frame_tick.md on starvation, and 70_reset_and_hazards.md on a budget too small, an inference of the
spec from the budget check. -/
def Obligations.BudgetTooSmall : Prop :=
  ∀ s : State, tickAccepted s = true →
    (s.ts = 0 ∧ s.params.tickBudget < 35) ∨ (s.ts ≠ 0 ∧ s.params.tickBudget < 11) →
    exec .tick s = .next { s with budget := s.params.tickBudget, guard := false, enginePos := .idle }

/-- A count lowered in mid-frame: the frame in progress sends one more slot, channel TS, and then completes, whatever
budget remains. 70_reset_and_hazards.md on lowering the count, which rests on the spec's decision D24. -/
def Obligations.LoweredCountEndsTheFrame : Prop :=
  ∀ s : State, tickAccepted s = true → s.acc < s.ts → s.ts ≤ s.params.n → 11 ≤ s.params.tickBudget →
    exec .tick s = .next { s with
      ts := 0, budget := s.params.tickBudget - 11, txb := s.bufAt (s.ts - 1), guard := false, enginePos := .idle,
      dataLvl := .driven .high, markerLvl := .driven .high,
      trace := s.trace ++ [.edge s.markerPinAct .low] ++ slotItems s.dataPinAct (s.bufAt (s.ts - 1))
        ++ [.edge s.markerPinAct .high] }

/-! ### Whole frames -/

/-- The frame property and the number of invocations a frame takes. From TS = 0, with a budget of at least 35, ACC
constant and every tick accepted, exactly `frameInvocations` ticks emit exactly one frame: break, mark-after-break, the
slot of 0x00, the slots of channels 1..ACC in order, the marker edges and the closing edge; after fewer ticks a whole
number of units has been sent, the line is high, and the frame is not complete. 42_frame_tick.md section on the state
machine as a whole, both inferences of the spec from its rules. -/
def Obligations.FrameProperty : Prop :=
  ∀ s : State, tickAccepted s = true → s.ts = 0 → s.acc ≤ s.params.n → 35 ≤ s.params.tickBudget →
    (∃ t : State, microRun (exec .tick) (frameInvocations s.params.tickBudget s.acc) s = .next t ∧
      t.trace = s.trace ++ frameItems s ∧ t.ts = 0 ∧ t.dataLvl = .driven .high ∧ t.markerLvl = .driven .high ∧
      tickAccepted t = true ∧ t.buf = s.buf ∧ t.acc = s.acc) ∧
    (∀ j, 0 < j → j < frameInvocations s.params.tickBudget s.acc →
      ∃ u : State, microRun (exec .tick) j s = .next u ∧ u.ts ≠ 0 ∧ u.ts ≤ s.acc ∧
        u.trace = s.trace ++ frameStartItems s.params s.dataPinAct ++ channelsItems s 0 (u.ts - 1) ∧
        u.dataLvl = .driven .high ∧ tickAccepted u = true)

/-- The source's first testable property: after `write(c, v)`, the byte transmitted at slot index `c` in the next
complete frame is `clamp(v, 0, 255)`. `t` is the block after the WRITE, every tick accepted from there on. A WRITE in
mid-frame (TS not 0) leaves that frame its remaining channels, at least one, to send first; then, as at once with TS = 0,
comes the complete frame. 20_memory.md section 5 on visibility, an inference of the spec; 95_test_vectors.md X1. -/
def Obligations.WriteReachesTheWire : Prop :=
  ∀ (c v : Int) (s t : State) (left : Nat), Memory.wf s.params.n s.buf = true → s.acc ≤ s.params.n →
    s.ts ≤ s.params.n → 35 ≤ s.params.tickBudget → 1 ≤ c → c ≤ s.params.n →
    exec (.write c v) s = .next t → tickAccepted t = true → left = max (t.acc + 1 - t.ts) 1 →
    ∃ m u : State,
      microRun (exec .tick)
        (if t.ts = 0 then 0
          else (left + laterTickChannels t.params.tickBudget - 1) / laterTickChannels t.params.tickBudget) t = .next m ∧
      m.ts = 0 ∧ m.buf = t.buf ∧ m.acc = t.acc ∧
      m.trace = t.trace ++
        (if t.ts = 0 then [] else channelsItems t (t.ts - 1) left ++ [.edge t.markerPinAct .high]) ∧
      microRun (exec .tick) (frameInvocations t.params.tickBudget t.acc) m = .next u ∧ u.ts = 0 ∧
      u.trace = m.trace ++ frameStartItems t.params t.dataPinAct ++ channelsItems t 0 (c.toNat - 1)
        ++ channelItems t.dataPinAct t.markerPinAct
            (if v < 0 then 0#8 else if 255 < v then 255#8 else BitVec.ofInt 8 v)
        ++ channelsItems t c.toNat (t.acc - c.toNat) ++ [.edge t.markerPinAct .high]

/-- Nominal times: a slot is 11 bit periods and the frame-start unit 35, so a frame of A channels takes
`140 + 44 * A` microseconds of wire time; and SEND_BYTE takes the same cycles whatever the byte, 11 times BIT_CYCLES and
the overhead, which has no value here (log 16). 70_reset_and_hazards.md section 4, an inference of the spec from its
constants; 41_byte_transmitter.md section SEND_BYTE on constant time. -/
def Obligations.NominalFrameTime : Prop :=
  (∀ (v : Byte) (pin : Pin), traceBits (slotItems pin v) = 11 ∧ nominalMicros (slotItems pin v) = 44) ∧
  (∀ (p : Params) (pin : Pin), p.wf = true →
    traceBits (frameStartItems p pin) = 35 ∧ nominalMicros (frameStartItems p pin) = 140) ∧
  (∀ s : State, s.params.wf = true → nominalMicros (frameItems s) = 140 + 44 * s.acc) ∧
  (∀ (v : Byte) (pin : Pin) (s : State), ∃ (t : State) (items : List TraceItem),
    exec (.sendByte v pin) s = .next t ∧ t.trace = s.trace ++ items ∧
    sendByteCycles s.params items = 11 * s.params.bitCycles + Config.slotOverheadCycles)

/-- Merging adjacent SEG items gives the canonical trace of an observation: merging again changes nothing, and the levels
on a pin, bit period by bit period, are the same. 00_scope.md section 5 on the wire trace, the spec's own device. -/
def Obligations.MergingKeepsTheWaveform : Prop :=
  (∀ t : List TraceItem, observation (observation t) = observation t) ∧
  (∀ (pin : Pin) (t : List TraceItem), segLevels pin (observation t) = segLevels pin t) ∧
  (∀ pin : Pin, observation (slotItems pin 0x00#8) =
    [.mask true, .seg pin .low 9 .exact, .seg pin .high 2 .exact, .mask false]) ∧
  (∀ pin : Pin, observation (slotItems pin 0xFF#8) =
    [.mask true, .seg pin .low 1 .exact, .seg pin .high 10 .exact, .mask false])

/-! ### A step -/

/-- A step runs the operation the head of the schedule names, on the state with that entry taken off: a command word the
instruction it decodes to, a TICK the tick, `hostOp` and `engineOp` the operation at the agent's position; a word
presented puts the host at the command's first micro-step. An OTHERS step changes nothing, and while interrupts are
masked it waits, the invocation going on. The schedule is the model's form of 20_memory.md section 5 (log 4); that an
entry which cannot happen yet waits, and that an OTHERS step does so while IRQ_MASK = 1, are the model's choices
(logs 5 and 21). -/
def Obligations.StepRunsTheSchedule : Prop :=
  ∀ (s : State) (rest : List Event),
    (∀ w i, s.schedule = .command w :: rest → decode (.formatH w) = .ok i → hostMayStep s = true →
      s.hostPos = .idle → i.wf = true ∧ step s = exec i { s with schedule := rest }) ∧
    (∀ w i, s.schedule = .present w :: rest → decode (.formatH w) = .ok i → hostMayStep s = true →
      s.hostPos = .idle → step s = .next { s with schedule := rest, hostPos := commandPos i }) ∧
    (s.schedule = .tick :: rest → step s = exec .tick { s with schedule := rest }) ∧
    (s.schedule = .tickPulse :: rest → step s = .next (pulseTick { s with schedule := rest })) ∧
    (∀ i, s.schedule = .hostOp :: rest → hostMayStep s = true → hostSelected s = some i →
      step s = andThen (exec i { s with schedule := rest }) fun t => .next { t with hostPos := .idle }) ∧
    (∀ i, s.schedule = .engineOp :: rest → engineSelected s = some i →
      step s = andThen (exec i { s with schedule := rest }) fun t => .next (afterEngineOp t)) ∧
    (s.schedule = .hostStep :: rest → hostMayStep s = true → step s = hostMicro { s with schedule := rest }) ∧
    (s.schedule = .engineStep :: rest → step s = engineMicro { s with schedule := rest }) ∧
    (s.schedule = .others :: rest → s.irqMask = false → step s = .next { s with schedule := rest }) ∧
    (s.schedule = .others :: rest → s.irqMask = true → s.enginePos ≠ .idle → step s = engineMicro s)

/-- What the host places is what the next step runs: a command word its command, the tick pulse the tick, the frame-start
pattern FRAME_START, a slot SEND_BYTE. The placement is the model's (logs 12 and 13). -/
def Obligations.PlacedWordRuns : Prop :=
  ∀ s : State,
    (∀ (w : Nat) (i : Instr), decodeTableWord 40 w = some i → i ≠ .frameStart →
      step (s.withFetchWord 40 w) = exec i { s with hostPos := .idle, enginePos := .idle }) ∧
    step (s.withFetchWord 8 1) = exec .tick s ∧
    step (s.withFetchWord 40 0b00000000000111111111111100000000011) =
      exec .frameStart { s with enginePos := .l0, guard := true, ts := 0, budget := max s.budget 35 } ∧
    (∀ v : Byte, step (s.withFetchWord 16 (slotWord v).toNat) =
      andThen (exec (.sendByte v 0#8) { s with enginePos := .s3 v, guard := true, dataPinAct := 0#8 })
        fun t => .next { t with enginePos := .s4 })

/-- While IRQ_MASK = 1, inside a slot, no host micro-step and no tick falls: a step changes no state of the host's, and
neither TS nor the marker line. 41_byte_transmitter.md on the uninterruptible slot, and 20_memory.md section 5, whose
reading of a concurrent host is decision D17 (log 10). -/
def Obligations.SlotIsUninterruptible : Prop :=
  ∀ s t : State, Inv s → s.irqMask = true → step s = .next t →
    t.buf = s.buf ∧ t.acc = s.acc ∧ t.started = s.started ∧ t.tickEn = s.tickEn ∧
    t.dataPinCfg = s.dataPinCfg ∧ t.markerPinCfg = s.markerPinCfg ∧ t.dataPinAct = s.dataPinAct ∧
    t.markerPinAct = s.markerPinAct ∧ t.hostPos = s.hostPos ∧ t.ts = s.ts ∧ t.markerLvl = s.markerLvl ∧
    t.guard = s.guard ∧ t.enginePos ≠ .idle

/-- With CONCURRENT_HOST = false a handler invocation runs without a host micro-step in between (20_memory.md section 5,
decision D17). -/
def Obligations.HostWaitsForTheInvocation : Prop :=
  ∀ s t : State, s.params.concurrentHost = false → s.enginePos ≠ .idle → step s = .next t →
    t.buf = s.buf ∧ t.acc = s.acc ∧ t.started = s.started ∧ t.tickEn = s.tickEn ∧
    t.dataPinCfg = s.dataPinCfg ∧ t.markerPinCfg = s.markerPinCfg ∧ t.dataPinAct = s.dataPinAct ∧
    t.markerPinAct = s.markerPinAct ∧ t.hostPos = s.hostPos

/-- The micro-steps of a host operation, run in a row, are the whole operation (20_memory.md section 5; 30_encoding.md
section 9). Thirteen are enough for any. -/
def Obligations.HostMicroStepsAreTheOperation : Prop :=
  ∀ (s : State) (i : Instr), hostSelected s = some i → microRun hostMicro 13 s = hostOperation s

/-- The micro-steps of an engine operation, run in a row, are the whole operation: sixteen with the selection for a unit,
twelve for SEND_BYTE, two for ADVANCE (42_frame_tick.md; 41_byte_transmitter.md). -/
def Obligations.EngineMicroStepsAreTheOperation : Prop :=
  ∀ (s : State) (i : Instr), engineSelected s = some i →
    microRun engineMicro (if i = .frameStart ∨ i = .channelSlot then 16 else if i = .advance then 2 else 12) s =
      engineOperation s

/-- The micro-steps of a handler invocation from the accepted tick on, run in a row, are the whole tick
(42_frame_tick.md). -/
def Obligations.TickMicroStepsAreTheTick : Prop :=
  ∀ s : State, tickAccepted s = true →
    microRun engineMicro (18 * (s.params.tickBudget / 11 + 2)) (pulseTick s) = exec .tick s

/-! ### Reset and invariants -/

/-- The state after reset, for every choice of the parameters: the source states the buffer's zeros; the other values are
the spec's decision D15, those of BUDGET, TXB and the active pins are the model's (log 3) and not stated here.
10_state.md section 10. -/
def Obligations.ResetState : Prop :=
  ∀ p : Params, ∃ s : State, s = State.resetWith p ∧
    (∀ i : Int, 0 ≤ i → i < p.n → memRead s i = some 0#8) ∧
    s.acc = 0 ∧ s.ts = 0 ∧ s.started = false ∧ s.tickEn = false ∧ s.guard = false ∧ s.irqMask = false ∧
    s.dataPinCfg = p.defaultDataPin ∧ s.markerPinCfg = p.defaultMarkerPin ∧
    s.dataLvl = .undriven ∧ s.markerLvl = .undriven ∧ s.trace = []

/-- The invariant holds after reset, for every choice of the parameters the spec allows and every schedule, and so do the
line levels' agreement with the trace where the host is not concurrent (10_state.md section 9). -/
def Obligations.InvariantAtReset : Prop :=
  ∀ (p : Params) (events : List Event), p.wf = true →
    Inv ((State.resetWith p).setSchedule events) ∧
    (p.concurrentHost = false → LevelsFollowTrace ((State.resetWith p).setSchedule events))

/-- Every step keeps the invariant, from every state that has it: the ranges of ACC, TS and BUDGET, the masks and guards
exactly where the invocation stands, TICK_EN = STARTED outside Start and Stop, the data line low only inside a unit, the
buffer's canonical form (10_state.md section 9). -/
def Obligations.InvariantKept : Prop :=
  ∀ s t : State, Inv s → step s = .next t → Inv t

/-- Every step keeps DATA_LVL and MARKER_LVL redundant with TRACE: each is the level of the last item that names its pin
(10_state.md section 7). The host is not concurrent, and inside Start the lines' items are still to come. -/
def Obligations.LevelsFollowTraceKept : Prop :=
  ∀ s t : State, Inv s → LevelsFollowTrace s → step s = .next t → LevelsFollowTrace t

/-- The eight invariants of 10_state.md section 9, in every state of every run: whatever the parameters, the commands,
the ticks and the interleaving. The spec infers each from its rules. -/
def Obligations.ReachableStates : Prop :=
  ∀ (p : Params) (s : State), p.wf = true → Reachable p s →
    s.params = p ∧ s.acc ≤ p.n ∧ s.ts ≤ p.n ∧
    (p.concurrentHost = false → s.enginePos = .s2 → ∃ b, memRead s ((s.ts : Int) - 1) = some b) ∧
    (s.enginePos ≠ .idle → s.enginePos ≠ .e1 → s.budget ≤ p.tickBudget) ∧
    (s.irqMask = true → s.guard = true) ∧
    (s.hostPos.inStart = false → s.hostPos.inStop = false → s.tickEn = s.started) ∧
    (s.dataLvl ≠ .undriven → s.enginePos.dataMayBeLow = false → s.dataLvl = .driven .high) ∧
    (s.enginePos = .idle → s.guard = false) ∧
    Memory.wf p.n s.buf = true

/-- No step faults, whatever the host does, and the only refusal is one pin for both lines; with different configured
pins and no restart on a pin change every step completes. The block raises no exception (60_exceptions.md section 1,
decision D20); the refusal is U6's (log 7), and what lets the race of U16 go on is the model's free byte (log 8). -/
def Obligations.StepsComplete : Prop :=
  ∀ s : State, Inv s →
    (∀ e, step s ≠ .fault e) ∧
    (∀ e, step s = .refused e → e = .onePinForBothLines) ∧
    (s.params.pinChangeRestart = false → s.dataPinCfg ≠ s.markerPinCfg → ∃ t, step s = .next t)

/-! ### Memory and several blocks -/

/-- The memory primitives: a read inside 0..N-1 after a write gives the byte written and every other index as before; a
write inside keeps the canonical form and changes nothing but the buffer; outside, neither is defined (00_scope.md
section 5; 20_memory.md; the form and the write's fault are the model's, logs 22 and 8). -/
def Obligations.ReadAfterWrite : Prop :=
  ∀ (s : State) (a : Int) (v : Byte), Memory.wf s.params.n s.buf = true →
    (0 ≤ a → a < s.params.n → ∃ t, memWrite s a v = .next t ∧ t = { s with buf := t.buf } ∧
      Memory.wf s.params.n t.buf = true ∧ memRead t a = some v ∧ ∀ b, b ≠ a → memRead t b = memRead s b) ∧
    (¬ (0 ≤ a ∧ a < s.params.n) → memWrite s a v = .fault .bufferIndexOutside ∧ memRead s a = none)

/-- Two buffers in canonical form with the same N bytes are the same data (log 22). -/
def Obligations.CanonicalBuffersAreEqual : Prop :=
  ∀ (n : Nat) (m k : List Host.Cell), Memory.wf n m = true → Memory.wf n k = true →
    (∀ i, i < n → cellRead m i = cellRead k i) → m = k

/-- Instances share no state: after the system's reset each block is as after its own, with its own parameters, and a step
of one block is that block's own step and touches no other (60_exceptions.md section 8, decision D22; that the parameters
may differ from block to block is the model's choice, log 17). -/
def Obligations.InstancesAreIndependent : Prop :=
  (∀ params : List Params, systemParamsWf params = true → (systemReset params).length = params.length ∧
    ∀ (k : Nat) (p : Params), params[k]? = some p →
      p.instances = (systemReset params).length ∧ (systemReset params)[k]? = some (State.resetWith p)) ∧
  ∀ (k : Nat) (blocks after : List State), systemStep k blocks = .next after →
    after.length = blocks.length ∧ (∀ j, j ≠ k → after[j]? = blocks[j]?) ∧
    (∀ s, blocks[k]? = some s → ∃ t, step s = .next t ∧ after[k]? = some t)
end

