-- ==== Sys2Proof/Laws/Assembler.lean ====
section
/-! SUPPORT. How the assembler's text comes apart: parts between separators, a text that has no blank around it, an API
call, and which characters the text of an integer has. -/

namespace Sys2Proof.Machine

theorem splitParts_ne_nil (c : Char) (a : List Char) : splitParts c a ≠ [] := by
  cases a with
  | nil => simp [splitParts]
  | cons x xs =>
    unfold splitParts
    split
    · simp
    · split <;> simp

/-- A part without the separator, then the rest. -/
theorem splitParts_append {c : Char} {a : List Char} (h : c ∉ a) (b : List Char) :
    splitParts c (a ++ c :: b) = a :: splitParts c b := by
  induction a with
  | nil => simp [splitParts]
  | cons x xs ih =>
    simp only [List.mem_cons, not_or] at h
    simp [splitParts, Ne.symm h.1, ih h.2]

/-- A text without the separator is one part. -/
theorem splitParts_single {c : Char} {a : List Char} (h : c ∉ a) : splitParts c a = [a] := by
  induction a with
  | nil => rfl
  | cons x xs ih =>
    simp only [List.mem_cons, not_or] at h
    simp [splitParts, Ne.symm h.1, ih h.2]

theorem trimStart_of_head {c : Char} {a : List Char} (h : isBlank c = false) : trimStart (c :: a) = c :: a := by
  simp [trimStart, h]

/-- Trimming looks through a blank before the text. -/
theorem trimBlanks_cons {c : Char} (h : isBlank c = true) (a : List Char) : trimBlanks (c :: a) = trimBlanks a := by
  simp [trimBlanks, trimStart, h]

/-- A text without blanks is what is left of it. -/
theorem trimBlanks_of_no_blank {a : List Char} (h : ∀ x ∈ a, isBlank x = false) : trimBlanks a = a := by
  have keep : ∀ l : List Char, (∀ x ∈ l, isBlank x = false) → trimStart l = l := by
    intro l hl
    cases l with
    | nil => rfl
    | cons x xs => exact trimStart_of_head (hl x (by simp))
  rw [trimBlanks, keep a h, keep a.reverse (by simpa using h), List.reverse_reverse]

/-- A blank before the operands changes none of them. -/
theorem parseOperands_cons {c : Char} (h : isBlank c = true) (a : List Char) :
    parseOperands (c :: a) = parseOperands a := by
  have hc : c ≠ ',' := by
    rintro rfl
    revert h
    decide
  unfold parseOperands
  rw [trimBlanks_cons h]
  cases a with
  | nil => rfl
  | cons x xs =>
    congr 1
    rw [splitParts, if_neg hc]
    obtain ⟨first, more, e⟩ := List.exists_cons_of_ne_nil (splitParts_ne_nil ',' (x :: xs))
    simp [e, trimBlanks_cons h]

/-- An API call is its command's mnemonic with the text between the parentheses (30_encoding.md R107). -/
theorem splitStatement_call {name mnemonic : List Char} (hn : '(' ∉ name)
    (h : apiMnemonic (trimBlanks name) = some mnemonic) (operands : List Char) :
    splitStatement (name ++ '(' :: (operands ++ [')'])) = some (mnemonic, operands) := by
  have ht : ∀ x ∈ name, decide (x ≠ '(') = true := by
    intro x hx
    exact decide_eq_true fun e => hn (e ▸ hx)
  have hd : (name ++ '(' :: (operands ++ [')'])).dropWhile (fun c => decide (c ≠ '(')) = '(' :: (operands ++ [')']) := by
    rw [List.dropWhile_append_of_pos ht]
    simp
  have hk : (name ++ '(' :: (operands ++ [')'])).takeWhile (fun c => decide (c ≠ '(')) = name := by
    rw [List.takeWhile_append_of_pos ht]
    simp
  simp only [splitStatement, hd, hk]
  simp [splitCall, h, trimStart_of_head (c := ')') rfl]

/-- A mnemonic, a blank and the operands (R106). -/
theorem splitStatement_mnemonic {mnemonic operands : List Char} (hm : ∀ x ∈ mnemonic, x.isUpper = true)
    (ho : '(' ∉ operands) : splitStatement (mnemonic ++ ' ' :: operands) = some (mnemonic, ' ' :: operands) := by
  have hp : '(' ∉ mnemonic := fun h => by
    have := hm _ h
    revert this
    decide
  have hd : (mnemonic ++ ' ' :: operands).dropWhile (fun c => decide (c ≠ '(')) = [] := by
    rw [List.dropWhile_eq_nil_iff]
    intro x hx
    refine decide_eq_true ?_
    rintro rfl
    simp_all
  have hu : (mnemonic ++ ' ' :: operands).dropWhile Char.isUpper = ' ' :: operands := by
    rw [List.dropWhile_append_of_pos hm]
    rfl
  have hk : (mnemonic ++ ' ' :: operands).takeWhile Char.isUpper = mnemonic := by
    rw [List.takeWhile_append_of_pos hm]
    simp [show Char.isUpper ' ' = false from rfl]
  have hs : trimStart (' ' :: operands) ≠ ' ' :: operands := by
    intro e
    have := congrArg List.length e
    have le : (trimStart operands).length ≤ operands.length := (List.dropWhile_suffix _).length_le
    simp only [trimStart, List.dropWhile_cons, show isBlank ' ' = true from rfl, if_true, List.length_cons] at this
    simp only [trimStart] at le
    omega
  simp only [splitStatement, hd, splitMnemonic, hu, hk, hs, and_false, if_false]

/-- A line that begins with no blank and has no comment is its statement's text (R106). -/
theorem parseLine_statement {c : Char} {text : List Char} (hb : isBlank c = false) (hc : ';' ∉ c :: text) :
    parseLine (c :: text) = (parseStatement (c :: text)).map fun statement => [statement] := by
  have e : (c :: text).takeWhile (fun c => decide (c ≠ ';')) = c :: text := by
    rw [List.takeWhile_eq_self_iff]
    intro x hx
    exact decide_eq_true fun e => hc (e ▸ hx)
  simp only [parseLine, e, trimStart_of_head hb]
  simp

theorem digitsFrom_chars {base acc k : Nat} {cs : List Char} (h : digitsFrom base acc cs = some k) :
    ∀ x ∈ cs, (digitValue x).isSome := by
  induction cs generalizing acc with
  | nil => simp
  | cons c rest ih =>
    simp only [digitsFrom] at h
    split at h
    · rename_i d hd
      split at h
      · simpa [hd] using ih h
      · cases h
    · cases h

/-- The text of an integer has digits, a sign and the mark of the hexadecimal, and at least one character (R106). -/
theorem parseInt_chars {cs : List Char} {v : Int} (h : parseInt cs = some v) :
    cs ≠ [] ∧ ∀ x ∈ cs, (digitValue x).isSome ∨ x = '-' ∨ x = 'x' := by
  unfold parseInt at h
  split at h
  all_goals
    obtain ⟨k, hk, -⟩ := Option.map_eq_some_iff.mp h
    unfold parseNat at hk
    split at hk
    · cases hk
    · rename_i hne
      have hc := digitsFrom_chars hk
      refine ⟨by first | assumption | exact List.cons_ne_nil _ _, ?_⟩
      intro x hx
      try simp only [List.mem_cons] at hx
      first
        | exact .inl (hc x hx)
        | (rcases hx with rfl | rfl | hx
           · exact .inl (by decide)
           · exact .inr (.inr rfl)
           · exact .inl (hc x hx))
        | (rcases hx with rfl | hx
           · exact .inr (.inl rfl)
           · exact .inl (hc x hx))

/-- No character of an integer's text has a meaning of its own in a line (R106). -/
theorem integer_char {x : Char} (h : (digitValue x).isSome ∨ x = '-' ∨ x = 'x') :
    isBlank x = false ∧ x ≠ ',' ∧ x ≠ ';' ∧ x ≠ '(' ∧ x ≠ ')' := by
  rcases h with h | rfl | rfl
  · refine ⟨?_, ?_, ?_, ?_, ?_⟩
    · by_contra hb
      simp only [isBlank, Bool.not_eq_false, Bool.or_eq_true, decide_eq_true_eq] at hb
      rcases hb with rfl | rfl <;> (revert h; decide)
    all_goals
      rintro rfl
      revert h
      decide
  · decide
  · decide

/-- One operand that is the text of an integer. -/
theorem parseOperands_single {a : List Char} {v : Int} (ha : parseInt a = some v) : parseOperands a = some [v] := by
  obtain ⟨hne, hc⟩ := parseInt_chars ha
  have ht : trimBlanks a = a := trimBlanks_of_no_blank fun x hx => (integer_char (hc x hx)).1
  rw [parseOperands, ht, if_neg hne, splitParts_single fun h => (integer_char (hc _ h)).2.1 rfl]
  simp [ht, ha]

/-- Two operands that are the texts of integers. -/
theorem parseOperands_pair {a b : List Char} {v w : Int} (ha : parseInt a = some v) (hb : parseInt b = some w) :
    parseOperands (a ++ ',' :: b) = some [v, w] := by
  obtain ⟨-, hca⟩ := parseInt_chars ha
  obtain ⟨-, hcb⟩ := parseInt_chars hb
  have hta : trimBlanks a = a := trimBlanks_of_no_blank fun x hx => (integer_char (hca x hx)).1
  have htb : trimBlanks b = b := trimBlanks_of_no_blank fun x hx => (integer_char (hcb x hx)).1
  have ht : trimBlanks (a ++ ',' :: b) = a ++ ',' :: b := by
    refine trimBlanks_of_no_blank fun x hx => ?_
    rcases List.mem_append.mp hx with hx | hx
    · exact (integer_char (hca x hx)).1
    · rcases List.mem_cons.mp hx with rfl | hx
      · rfl
      · exact (integer_char (hcb x hx)).1
  rw [parseOperands, ht, if_neg (by simp), splitParts_append fun h => (integer_char (hca _ h)).2.1 rfl,
    splitParts_single fun h => (integer_char (hcb _ h)).2.1 rfl]
  simp [hta, htb, ha, hb]

end Sys2Proof.Machine
end

