-- ==== Sys2Proof/Laws/Encoding.lean ====
section
/-! SUPPORT. The fields of a command word built from its fields, and a slot read back (30_encoding.md R91 to R99). -/

namespace Sys2Proof

theorem commandWord_getLsbD (op : BitVec 4) (a b : BitVec 16) (i : Nat) :
    (commandWord op a b).getLsbD i =
      if i < 16 then b.getLsbD i else if i - 16 < 16 then a.getLsbD (i - 16) else op.getLsbD (i - 16 - 16) := by
  unfold commandWord
  refine (BitVec.getLsbD_append (x := op ++ a) (y := b) (i := i)).trans ?_
  rw [BitVec.getLsbD_append]

@[simp] theorem opField_commandWord (op : BitVec 4) (a b : BitVec 16) : opField (commandWord op a b) = op := by
  apply BitVec.eq_of_getLsbD_eq
  intro i hi
  simp [opField, commandWord_getLsbD, hi, show ¬(32 + i < 16) by omega, show ¬(32 + i - 16 < 16) by omega,
    show 32 + i - 16 - 16 = i by omega]

@[simp] theorem aField_commandWord (op : BitVec 4) (a b : BitVec 16) : aField (commandWord op a b) = a := by
  apply BitVec.eq_of_getLsbD_eq
  intro i hi
  simp [aField, commandWord_getLsbD, hi]

@[simp] theorem bField_commandWord (op : BitVec 4) (a b : BitVec 16) : bField (commandWord op a b) = b := by
  apply BitVec.eq_of_getLsbD_eq
  intro i hi
  simp [bField, commandWord_getLsbD, hi]

/-- Sign extension undoes the two's-complement field of an integer in the s16 range (R93). -/
theorem sext16_ofInt {v : Int} (h : inS16 v = true) : sext16 (BitVec.ofInt 16 v) = v := by
  simp only [inS16, Bool.and_eq_true, decide_eq_true_eq] at h
  simp only [sext16, BitVec.toInt_ofInt]
  norm_num [Int.bmod]
  split <;> omega

/-- The pin field is read back (R95). -/
@[simp] theorem lowByte_setWidth (v : BitVec 8) : lowByte (v.setWidth 16) = v := by
  apply BitVec.eq_of_getLsbD_eq
  intro i hi
  simp [lowByte, hi, show i < 16 by omega]

/-- The cells of a slot word and the byte a receiver reads from them (R99). -/
theorem slotWord_read : ∀ v : Byte, slotCell (slotWord v) 0 = false ∧
    (slotCell (slotWord v) 9 && slotCell (slotWord v) 10) = true ∧ slotValue (slotWord v) = v := by
  decide

theorem decodeSlot_slotWord (pin : Pin) (v : Byte) : decodeSlot pin (slotWord v) = .ok (.sendByte v pin) := by
  obtain ⟨h0, h1, h2⟩ := slotWord_read v
  simp [decodeSlot, h0, h1, h2]

end Sys2Proof
end

