-- ==== Sys2Proof/Laws/State.lean ====
section
/-! SUPPORT. One lemma per field per update of State, true by rfl. -/

namespace Sys2Proof.Machine

section
variable (s : State) (v : List Host.Cell)
@[simp] theorem State.setBuf_params : (s.setBuf v).params = s.params := rfl
@[simp] theorem State.setBuf_buf : (s.setBuf v).buf = v := rfl
@[simp] theorem State.setBuf_acc : (s.setBuf v).acc = s.acc := rfl
@[simp] theorem State.setBuf_ts : (s.setBuf v).ts = s.ts := rfl
@[simp] theorem State.setBuf_budget : (s.setBuf v).budget = s.budget := rfl
@[simp] theorem State.setBuf_txb : (s.setBuf v).txb = s.txb := rfl
@[simp] theorem State.setBuf_started : (s.setBuf v).started = s.started := rfl
@[simp] theorem State.setBuf_tickEn : (s.setBuf v).tickEn = s.tickEn := rfl
@[simp] theorem State.setBuf_guard : (s.setBuf v).guard = s.guard := rfl
@[simp] theorem State.setBuf_irqMask : (s.setBuf v).irqMask = s.irqMask := rfl
@[simp] theorem State.setBuf_dataPinCfg : (s.setBuf v).dataPinCfg = s.dataPinCfg := rfl
@[simp] theorem State.setBuf_markerPinCfg : (s.setBuf v).markerPinCfg = s.markerPinCfg := rfl
@[simp] theorem State.setBuf_dataPinAct : (s.setBuf v).dataPinAct = s.dataPinAct := rfl
@[simp] theorem State.setBuf_markerPinAct : (s.setBuf v).markerPinAct = s.markerPinAct := rfl
@[simp] theorem State.setBuf_dataLvl : (s.setBuf v).dataLvl = s.dataLvl := rfl
@[simp] theorem State.setBuf_markerLvl : (s.setBuf v).markerLvl = s.markerLvl := rfl
@[simp] theorem State.setBuf_trace : (s.setBuf v).trace = s.trace := rfl
@[simp] theorem State.setBuf_enginePos : (s.setBuf v).enginePos = s.enginePos := rfl
@[simp] theorem State.setBuf_hostPos : (s.setBuf v).hostPos = s.hostPos := rfl
@[simp] theorem State.setBuf_schedule : (s.setBuf v).schedule = s.schedule := rfl
@[simp] theorem State.setBuf_strayReads : (s.setBuf v).strayReads = s.strayReads := rfl
end

section
variable (s : State) (v : Nat)
@[simp] theorem State.setAcc_params : (s.setAcc v).params = s.params := rfl
@[simp] theorem State.setAcc_buf : (s.setAcc v).buf = s.buf := rfl
@[simp] theorem State.setAcc_acc : (s.setAcc v).acc = v := rfl
@[simp] theorem State.setAcc_ts : (s.setAcc v).ts = s.ts := rfl
@[simp] theorem State.setAcc_budget : (s.setAcc v).budget = s.budget := rfl
@[simp] theorem State.setAcc_txb : (s.setAcc v).txb = s.txb := rfl
@[simp] theorem State.setAcc_started : (s.setAcc v).started = s.started := rfl
@[simp] theorem State.setAcc_tickEn : (s.setAcc v).tickEn = s.tickEn := rfl
@[simp] theorem State.setAcc_guard : (s.setAcc v).guard = s.guard := rfl
@[simp] theorem State.setAcc_irqMask : (s.setAcc v).irqMask = s.irqMask := rfl
@[simp] theorem State.setAcc_dataPinCfg : (s.setAcc v).dataPinCfg = s.dataPinCfg := rfl
@[simp] theorem State.setAcc_markerPinCfg : (s.setAcc v).markerPinCfg = s.markerPinCfg := rfl
@[simp] theorem State.setAcc_dataPinAct : (s.setAcc v).dataPinAct = s.dataPinAct := rfl
@[simp] theorem State.setAcc_markerPinAct : (s.setAcc v).markerPinAct = s.markerPinAct := rfl
@[simp] theorem State.setAcc_dataLvl : (s.setAcc v).dataLvl = s.dataLvl := rfl
@[simp] theorem State.setAcc_markerLvl : (s.setAcc v).markerLvl = s.markerLvl := rfl
@[simp] theorem State.setAcc_trace : (s.setAcc v).trace = s.trace := rfl
@[simp] theorem State.setAcc_enginePos : (s.setAcc v).enginePos = s.enginePos := rfl
@[simp] theorem State.setAcc_hostPos : (s.setAcc v).hostPos = s.hostPos := rfl
@[simp] theorem State.setAcc_schedule : (s.setAcc v).schedule = s.schedule := rfl
@[simp] theorem State.setAcc_strayReads : (s.setAcc v).strayReads = s.strayReads := rfl
end

section
variable (s : State) (v : Nat)
@[simp] theorem State.setTs_params : (s.setTs v).params = s.params := rfl
@[simp] theorem State.setTs_buf : (s.setTs v).buf = s.buf := rfl
@[simp] theorem State.setTs_acc : (s.setTs v).acc = s.acc := rfl
@[simp] theorem State.setTs_ts : (s.setTs v).ts = v := rfl
@[simp] theorem State.setTs_budget : (s.setTs v).budget = s.budget := rfl
@[simp] theorem State.setTs_txb : (s.setTs v).txb = s.txb := rfl
@[simp] theorem State.setTs_started : (s.setTs v).started = s.started := rfl
@[simp] theorem State.setTs_tickEn : (s.setTs v).tickEn = s.tickEn := rfl
@[simp] theorem State.setTs_guard : (s.setTs v).guard = s.guard := rfl
@[simp] theorem State.setTs_irqMask : (s.setTs v).irqMask = s.irqMask := rfl
@[simp] theorem State.setTs_dataPinCfg : (s.setTs v).dataPinCfg = s.dataPinCfg := rfl
@[simp] theorem State.setTs_markerPinCfg : (s.setTs v).markerPinCfg = s.markerPinCfg := rfl
@[simp] theorem State.setTs_dataPinAct : (s.setTs v).dataPinAct = s.dataPinAct := rfl
@[simp] theorem State.setTs_markerPinAct : (s.setTs v).markerPinAct = s.markerPinAct := rfl
@[simp] theorem State.setTs_dataLvl : (s.setTs v).dataLvl = s.dataLvl := rfl
@[simp] theorem State.setTs_markerLvl : (s.setTs v).markerLvl = s.markerLvl := rfl
@[simp] theorem State.setTs_trace : (s.setTs v).trace = s.trace := rfl
@[simp] theorem State.setTs_enginePos : (s.setTs v).enginePos = s.enginePos := rfl
@[simp] theorem State.setTs_hostPos : (s.setTs v).hostPos = s.hostPos := rfl
@[simp] theorem State.setTs_schedule : (s.setTs v).schedule = s.schedule := rfl
@[simp] theorem State.setTs_strayReads : (s.setTs v).strayReads = s.strayReads := rfl
end

section
variable (s : State) (v : Nat)
@[simp] theorem State.setBudget_params : (s.setBudget v).params = s.params := rfl
@[simp] theorem State.setBudget_buf : (s.setBudget v).buf = s.buf := rfl
@[simp] theorem State.setBudget_acc : (s.setBudget v).acc = s.acc := rfl
@[simp] theorem State.setBudget_ts : (s.setBudget v).ts = s.ts := rfl
@[simp] theorem State.setBudget_budget : (s.setBudget v).budget = v := rfl
@[simp] theorem State.setBudget_txb : (s.setBudget v).txb = s.txb := rfl
@[simp] theorem State.setBudget_started : (s.setBudget v).started = s.started := rfl
@[simp] theorem State.setBudget_tickEn : (s.setBudget v).tickEn = s.tickEn := rfl
@[simp] theorem State.setBudget_guard : (s.setBudget v).guard = s.guard := rfl
@[simp] theorem State.setBudget_irqMask : (s.setBudget v).irqMask = s.irqMask := rfl
@[simp] theorem State.setBudget_dataPinCfg : (s.setBudget v).dataPinCfg = s.dataPinCfg := rfl
@[simp] theorem State.setBudget_markerPinCfg : (s.setBudget v).markerPinCfg = s.markerPinCfg := rfl
@[simp] theorem State.setBudget_dataPinAct : (s.setBudget v).dataPinAct = s.dataPinAct := rfl
@[simp] theorem State.setBudget_markerPinAct : (s.setBudget v).markerPinAct = s.markerPinAct := rfl
@[simp] theorem State.setBudget_dataLvl : (s.setBudget v).dataLvl = s.dataLvl := rfl
@[simp] theorem State.setBudget_markerLvl : (s.setBudget v).markerLvl = s.markerLvl := rfl
@[simp] theorem State.setBudget_trace : (s.setBudget v).trace = s.trace := rfl
@[simp] theorem State.setBudget_enginePos : (s.setBudget v).enginePos = s.enginePos := rfl
@[simp] theorem State.setBudget_hostPos : (s.setBudget v).hostPos = s.hostPos := rfl
@[simp] theorem State.setBudget_schedule : (s.setBudget v).schedule = s.schedule := rfl
@[simp] theorem State.setBudget_strayReads : (s.setBudget v).strayReads = s.strayReads := rfl
end

section
variable (s : State) (v : Byte)
@[simp] theorem State.setTxb_params : (s.setTxb v).params = s.params := rfl
@[simp] theorem State.setTxb_buf : (s.setTxb v).buf = s.buf := rfl
@[simp] theorem State.setTxb_acc : (s.setTxb v).acc = s.acc := rfl
@[simp] theorem State.setTxb_ts : (s.setTxb v).ts = s.ts := rfl
@[simp] theorem State.setTxb_budget : (s.setTxb v).budget = s.budget := rfl
@[simp] theorem State.setTxb_txb : (s.setTxb v).txb = v := rfl
@[simp] theorem State.setTxb_started : (s.setTxb v).started = s.started := rfl
@[simp] theorem State.setTxb_tickEn : (s.setTxb v).tickEn = s.tickEn := rfl
@[simp] theorem State.setTxb_guard : (s.setTxb v).guard = s.guard := rfl
@[simp] theorem State.setTxb_irqMask : (s.setTxb v).irqMask = s.irqMask := rfl
@[simp] theorem State.setTxb_dataPinCfg : (s.setTxb v).dataPinCfg = s.dataPinCfg := rfl
@[simp] theorem State.setTxb_markerPinCfg : (s.setTxb v).markerPinCfg = s.markerPinCfg := rfl
@[simp] theorem State.setTxb_dataPinAct : (s.setTxb v).dataPinAct = s.dataPinAct := rfl
@[simp] theorem State.setTxb_markerPinAct : (s.setTxb v).markerPinAct = s.markerPinAct := rfl
@[simp] theorem State.setTxb_dataLvl : (s.setTxb v).dataLvl = s.dataLvl := rfl
@[simp] theorem State.setTxb_markerLvl : (s.setTxb v).markerLvl = s.markerLvl := rfl
@[simp] theorem State.setTxb_trace : (s.setTxb v).trace = s.trace := rfl
@[simp] theorem State.setTxb_enginePos : (s.setTxb v).enginePos = s.enginePos := rfl
@[simp] theorem State.setTxb_hostPos : (s.setTxb v).hostPos = s.hostPos := rfl
@[simp] theorem State.setTxb_schedule : (s.setTxb v).schedule = s.schedule := rfl
@[simp] theorem State.setTxb_strayReads : (s.setTxb v).strayReads = s.strayReads := rfl
end

section
variable (s : State) (v : Bool)
@[simp] theorem State.setStarted_params : (s.setStarted v).params = s.params := rfl
@[simp] theorem State.setStarted_buf : (s.setStarted v).buf = s.buf := rfl
@[simp] theorem State.setStarted_acc : (s.setStarted v).acc = s.acc := rfl
@[simp] theorem State.setStarted_ts : (s.setStarted v).ts = s.ts := rfl
@[simp] theorem State.setStarted_budget : (s.setStarted v).budget = s.budget := rfl
@[simp] theorem State.setStarted_txb : (s.setStarted v).txb = s.txb := rfl
@[simp] theorem State.setStarted_started : (s.setStarted v).started = v := rfl
@[simp] theorem State.setStarted_tickEn : (s.setStarted v).tickEn = s.tickEn := rfl
@[simp] theorem State.setStarted_guard : (s.setStarted v).guard = s.guard := rfl
@[simp] theorem State.setStarted_irqMask : (s.setStarted v).irqMask = s.irqMask := rfl
@[simp] theorem State.setStarted_dataPinCfg : (s.setStarted v).dataPinCfg = s.dataPinCfg := rfl
@[simp] theorem State.setStarted_markerPinCfg : (s.setStarted v).markerPinCfg = s.markerPinCfg := rfl
@[simp] theorem State.setStarted_dataPinAct : (s.setStarted v).dataPinAct = s.dataPinAct := rfl
@[simp] theorem State.setStarted_markerPinAct : (s.setStarted v).markerPinAct = s.markerPinAct := rfl
@[simp] theorem State.setStarted_dataLvl : (s.setStarted v).dataLvl = s.dataLvl := rfl
@[simp] theorem State.setStarted_markerLvl : (s.setStarted v).markerLvl = s.markerLvl := rfl
@[simp] theorem State.setStarted_trace : (s.setStarted v).trace = s.trace := rfl
@[simp] theorem State.setStarted_enginePos : (s.setStarted v).enginePos = s.enginePos := rfl
@[simp] theorem State.setStarted_hostPos : (s.setStarted v).hostPos = s.hostPos := rfl
@[simp] theorem State.setStarted_schedule : (s.setStarted v).schedule = s.schedule := rfl
@[simp] theorem State.setStarted_strayReads : (s.setStarted v).strayReads = s.strayReads := rfl
end

section
variable (s : State) (v : Bool)
@[simp] theorem State.setTickEn_params : (s.setTickEn v).params = s.params := rfl
@[simp] theorem State.setTickEn_buf : (s.setTickEn v).buf = s.buf := rfl
@[simp] theorem State.setTickEn_acc : (s.setTickEn v).acc = s.acc := rfl
@[simp] theorem State.setTickEn_ts : (s.setTickEn v).ts = s.ts := rfl
@[simp] theorem State.setTickEn_budget : (s.setTickEn v).budget = s.budget := rfl
@[simp] theorem State.setTickEn_txb : (s.setTickEn v).txb = s.txb := rfl
@[simp] theorem State.setTickEn_started : (s.setTickEn v).started = s.started := rfl
@[simp] theorem State.setTickEn_tickEn : (s.setTickEn v).tickEn = v := rfl
@[simp] theorem State.setTickEn_guard : (s.setTickEn v).guard = s.guard := rfl
@[simp] theorem State.setTickEn_irqMask : (s.setTickEn v).irqMask = s.irqMask := rfl
@[simp] theorem State.setTickEn_dataPinCfg : (s.setTickEn v).dataPinCfg = s.dataPinCfg := rfl
@[simp] theorem State.setTickEn_markerPinCfg : (s.setTickEn v).markerPinCfg = s.markerPinCfg := rfl
@[simp] theorem State.setTickEn_dataPinAct : (s.setTickEn v).dataPinAct = s.dataPinAct := rfl
@[simp] theorem State.setTickEn_markerPinAct : (s.setTickEn v).markerPinAct = s.markerPinAct := rfl
@[simp] theorem State.setTickEn_dataLvl : (s.setTickEn v).dataLvl = s.dataLvl := rfl
@[simp] theorem State.setTickEn_markerLvl : (s.setTickEn v).markerLvl = s.markerLvl := rfl
@[simp] theorem State.setTickEn_trace : (s.setTickEn v).trace = s.trace := rfl
@[simp] theorem State.setTickEn_enginePos : (s.setTickEn v).enginePos = s.enginePos := rfl
@[simp] theorem State.setTickEn_hostPos : (s.setTickEn v).hostPos = s.hostPos := rfl
@[simp] theorem State.setTickEn_schedule : (s.setTickEn v).schedule = s.schedule := rfl
@[simp] theorem State.setTickEn_strayReads : (s.setTickEn v).strayReads = s.strayReads := rfl
end

section
variable (s : State) (v : Pin)
@[simp] theorem State.setDataPinCfg_params : (s.setDataPinCfg v).params = s.params := rfl
@[simp] theorem State.setDataPinCfg_buf : (s.setDataPinCfg v).buf = s.buf := rfl
@[simp] theorem State.setDataPinCfg_acc : (s.setDataPinCfg v).acc = s.acc := rfl
@[simp] theorem State.setDataPinCfg_ts : (s.setDataPinCfg v).ts = s.ts := rfl
@[simp] theorem State.setDataPinCfg_budget : (s.setDataPinCfg v).budget = s.budget := rfl
@[simp] theorem State.setDataPinCfg_txb : (s.setDataPinCfg v).txb = s.txb := rfl
@[simp] theorem State.setDataPinCfg_started : (s.setDataPinCfg v).started = s.started := rfl
@[simp] theorem State.setDataPinCfg_tickEn : (s.setDataPinCfg v).tickEn = s.tickEn := rfl
@[simp] theorem State.setDataPinCfg_guard : (s.setDataPinCfg v).guard = s.guard := rfl
@[simp] theorem State.setDataPinCfg_irqMask : (s.setDataPinCfg v).irqMask = s.irqMask := rfl
@[simp] theorem State.setDataPinCfg_dataPinCfg : (s.setDataPinCfg v).dataPinCfg = v := rfl
@[simp] theorem State.setDataPinCfg_markerPinCfg : (s.setDataPinCfg v).markerPinCfg = s.markerPinCfg := rfl
@[simp] theorem State.setDataPinCfg_dataPinAct : (s.setDataPinCfg v).dataPinAct = s.dataPinAct := rfl
@[simp] theorem State.setDataPinCfg_markerPinAct : (s.setDataPinCfg v).markerPinAct = s.markerPinAct := rfl
@[simp] theorem State.setDataPinCfg_dataLvl : (s.setDataPinCfg v).dataLvl = s.dataLvl := rfl
@[simp] theorem State.setDataPinCfg_markerLvl : (s.setDataPinCfg v).markerLvl = s.markerLvl := rfl
@[simp] theorem State.setDataPinCfg_trace : (s.setDataPinCfg v).trace = s.trace := rfl
@[simp] theorem State.setDataPinCfg_enginePos : (s.setDataPinCfg v).enginePos = s.enginePos := rfl
@[simp] theorem State.setDataPinCfg_hostPos : (s.setDataPinCfg v).hostPos = s.hostPos := rfl
@[simp] theorem State.setDataPinCfg_schedule : (s.setDataPinCfg v).schedule = s.schedule := rfl
@[simp] theorem State.setDataPinCfg_strayReads : (s.setDataPinCfg v).strayReads = s.strayReads := rfl
end

section
variable (s : State) (v : Pin)
@[simp] theorem State.setMarkerPinCfg_params : (s.setMarkerPinCfg v).params = s.params := rfl
@[simp] theorem State.setMarkerPinCfg_buf : (s.setMarkerPinCfg v).buf = s.buf := rfl
@[simp] theorem State.setMarkerPinCfg_acc : (s.setMarkerPinCfg v).acc = s.acc := rfl
@[simp] theorem State.setMarkerPinCfg_ts : (s.setMarkerPinCfg v).ts = s.ts := rfl
@[simp] theorem State.setMarkerPinCfg_budget : (s.setMarkerPinCfg v).budget = s.budget := rfl
@[simp] theorem State.setMarkerPinCfg_txb : (s.setMarkerPinCfg v).txb = s.txb := rfl
@[simp] theorem State.setMarkerPinCfg_started : (s.setMarkerPinCfg v).started = s.started := rfl
@[simp] theorem State.setMarkerPinCfg_tickEn : (s.setMarkerPinCfg v).tickEn = s.tickEn := rfl
@[simp] theorem State.setMarkerPinCfg_guard : (s.setMarkerPinCfg v).guard = s.guard := rfl
@[simp] theorem State.setMarkerPinCfg_irqMask : (s.setMarkerPinCfg v).irqMask = s.irqMask := rfl
@[simp] theorem State.setMarkerPinCfg_dataPinCfg : (s.setMarkerPinCfg v).dataPinCfg = s.dataPinCfg := rfl
@[simp] theorem State.setMarkerPinCfg_markerPinCfg : (s.setMarkerPinCfg v).markerPinCfg = v := rfl
@[simp] theorem State.setMarkerPinCfg_dataPinAct : (s.setMarkerPinCfg v).dataPinAct = s.dataPinAct := rfl
@[simp] theorem State.setMarkerPinCfg_markerPinAct : (s.setMarkerPinCfg v).markerPinAct = s.markerPinAct := rfl
@[simp] theorem State.setMarkerPinCfg_dataLvl : (s.setMarkerPinCfg v).dataLvl = s.dataLvl := rfl
@[simp] theorem State.setMarkerPinCfg_markerLvl : (s.setMarkerPinCfg v).markerLvl = s.markerLvl := rfl
@[simp] theorem State.setMarkerPinCfg_trace : (s.setMarkerPinCfg v).trace = s.trace := rfl
@[simp] theorem State.setMarkerPinCfg_enginePos : (s.setMarkerPinCfg v).enginePos = s.enginePos := rfl
@[simp] theorem State.setMarkerPinCfg_hostPos : (s.setMarkerPinCfg v).hostPos = s.hostPos := rfl
@[simp] theorem State.setMarkerPinCfg_schedule : (s.setMarkerPinCfg v).schedule = s.schedule := rfl
@[simp] theorem State.setMarkerPinCfg_strayReads : (s.setMarkerPinCfg v).strayReads = s.strayReads := rfl
end

section
variable (s : State) (v : Pin)
@[simp] theorem State.setDataPinAct_params : (s.setDataPinAct v).params = s.params := rfl
@[simp] theorem State.setDataPinAct_buf : (s.setDataPinAct v).buf = s.buf := rfl
@[simp] theorem State.setDataPinAct_acc : (s.setDataPinAct v).acc = s.acc := rfl
@[simp] theorem State.setDataPinAct_ts : (s.setDataPinAct v).ts = s.ts := rfl
@[simp] theorem State.setDataPinAct_budget : (s.setDataPinAct v).budget = s.budget := rfl
@[simp] theorem State.setDataPinAct_txb : (s.setDataPinAct v).txb = s.txb := rfl
@[simp] theorem State.setDataPinAct_started : (s.setDataPinAct v).started = s.started := rfl
@[simp] theorem State.setDataPinAct_tickEn : (s.setDataPinAct v).tickEn = s.tickEn := rfl
@[simp] theorem State.setDataPinAct_guard : (s.setDataPinAct v).guard = s.guard := rfl
@[simp] theorem State.setDataPinAct_irqMask : (s.setDataPinAct v).irqMask = s.irqMask := rfl
@[simp] theorem State.setDataPinAct_dataPinCfg : (s.setDataPinAct v).dataPinCfg = s.dataPinCfg := rfl
@[simp] theorem State.setDataPinAct_markerPinCfg : (s.setDataPinAct v).markerPinCfg = s.markerPinCfg := rfl
@[simp] theorem State.setDataPinAct_dataPinAct : (s.setDataPinAct v).dataPinAct = v := rfl
@[simp] theorem State.setDataPinAct_markerPinAct : (s.setDataPinAct v).markerPinAct = s.markerPinAct := rfl
@[simp] theorem State.setDataPinAct_dataLvl : (s.setDataPinAct v).dataLvl = s.dataLvl := rfl
@[simp] theorem State.setDataPinAct_markerLvl : (s.setDataPinAct v).markerLvl = s.markerLvl := rfl
@[simp] theorem State.setDataPinAct_trace : (s.setDataPinAct v).trace = s.trace := rfl
@[simp] theorem State.setDataPinAct_enginePos : (s.setDataPinAct v).enginePos = s.enginePos := rfl
@[simp] theorem State.setDataPinAct_hostPos : (s.setDataPinAct v).hostPos = s.hostPos := rfl
@[simp] theorem State.setDataPinAct_schedule : (s.setDataPinAct v).schedule = s.schedule := rfl
@[simp] theorem State.setDataPinAct_strayReads : (s.setDataPinAct v).strayReads = s.strayReads := rfl
end

section
variable (s : State) (v : Pin)
@[simp] theorem State.setMarkerPinAct_params : (s.setMarkerPinAct v).params = s.params := rfl
@[simp] theorem State.setMarkerPinAct_buf : (s.setMarkerPinAct v).buf = s.buf := rfl
@[simp] theorem State.setMarkerPinAct_acc : (s.setMarkerPinAct v).acc = s.acc := rfl
@[simp] theorem State.setMarkerPinAct_ts : (s.setMarkerPinAct v).ts = s.ts := rfl
@[simp] theorem State.setMarkerPinAct_budget : (s.setMarkerPinAct v).budget = s.budget := rfl
@[simp] theorem State.setMarkerPinAct_txb : (s.setMarkerPinAct v).txb = s.txb := rfl
@[simp] theorem State.setMarkerPinAct_started : (s.setMarkerPinAct v).started = s.started := rfl
@[simp] theorem State.setMarkerPinAct_tickEn : (s.setMarkerPinAct v).tickEn = s.tickEn := rfl
@[simp] theorem State.setMarkerPinAct_guard : (s.setMarkerPinAct v).guard = s.guard := rfl
@[simp] theorem State.setMarkerPinAct_irqMask : (s.setMarkerPinAct v).irqMask = s.irqMask := rfl
@[simp] theorem State.setMarkerPinAct_dataPinCfg : (s.setMarkerPinAct v).dataPinCfg = s.dataPinCfg := rfl
@[simp] theorem State.setMarkerPinAct_markerPinCfg : (s.setMarkerPinAct v).markerPinCfg = s.markerPinCfg := rfl
@[simp] theorem State.setMarkerPinAct_dataPinAct : (s.setMarkerPinAct v).dataPinAct = s.dataPinAct := rfl
@[simp] theorem State.setMarkerPinAct_markerPinAct : (s.setMarkerPinAct v).markerPinAct = v := rfl
@[simp] theorem State.setMarkerPinAct_dataLvl : (s.setMarkerPinAct v).dataLvl = s.dataLvl := rfl
@[simp] theorem State.setMarkerPinAct_markerLvl : (s.setMarkerPinAct v).markerLvl = s.markerLvl := rfl
@[simp] theorem State.setMarkerPinAct_trace : (s.setMarkerPinAct v).trace = s.trace := rfl
@[simp] theorem State.setMarkerPinAct_enginePos : (s.setMarkerPinAct v).enginePos = s.enginePos := rfl
@[simp] theorem State.setMarkerPinAct_hostPos : (s.setMarkerPinAct v).hostPos = s.hostPos := rfl
@[simp] theorem State.setMarkerPinAct_schedule : (s.setMarkerPinAct v).schedule = s.schedule := rfl
@[simp] theorem State.setMarkerPinAct_strayReads : (s.setMarkerPinAct v).strayReads = s.strayReads := rfl
end

section
variable (s : State) (v : LineLevel)
@[simp] theorem State.setDataLvl_params : (s.setDataLvl v).params = s.params := rfl
@[simp] theorem State.setDataLvl_buf : (s.setDataLvl v).buf = s.buf := rfl
@[simp] theorem State.setDataLvl_acc : (s.setDataLvl v).acc = s.acc := rfl
@[simp] theorem State.setDataLvl_ts : (s.setDataLvl v).ts = s.ts := rfl
@[simp] theorem State.setDataLvl_budget : (s.setDataLvl v).budget = s.budget := rfl
@[simp] theorem State.setDataLvl_txb : (s.setDataLvl v).txb = s.txb := rfl
@[simp] theorem State.setDataLvl_started : (s.setDataLvl v).started = s.started := rfl
@[simp] theorem State.setDataLvl_tickEn : (s.setDataLvl v).tickEn = s.tickEn := rfl
@[simp] theorem State.setDataLvl_guard : (s.setDataLvl v).guard = s.guard := rfl
@[simp] theorem State.setDataLvl_irqMask : (s.setDataLvl v).irqMask = s.irqMask := rfl
@[simp] theorem State.setDataLvl_dataPinCfg : (s.setDataLvl v).dataPinCfg = s.dataPinCfg := rfl
@[simp] theorem State.setDataLvl_markerPinCfg : (s.setDataLvl v).markerPinCfg = s.markerPinCfg := rfl
@[simp] theorem State.setDataLvl_dataPinAct : (s.setDataLvl v).dataPinAct = s.dataPinAct := rfl
@[simp] theorem State.setDataLvl_markerPinAct : (s.setDataLvl v).markerPinAct = s.markerPinAct := rfl
@[simp] theorem State.setDataLvl_dataLvl : (s.setDataLvl v).dataLvl = v := rfl
@[simp] theorem State.setDataLvl_markerLvl : (s.setDataLvl v).markerLvl = s.markerLvl := rfl
@[simp] theorem State.setDataLvl_trace : (s.setDataLvl v).trace = s.trace := rfl
@[simp] theorem State.setDataLvl_enginePos : (s.setDataLvl v).enginePos = s.enginePos := rfl
@[simp] theorem State.setDataLvl_hostPos : (s.setDataLvl v).hostPos = s.hostPos := rfl
@[simp] theorem State.setDataLvl_schedule : (s.setDataLvl v).schedule = s.schedule := rfl
@[simp] theorem State.setDataLvl_strayReads : (s.setDataLvl v).strayReads = s.strayReads := rfl
end

section
variable (s : State) (v : LineLevel)
@[simp] theorem State.setMarkerLvl_params : (s.setMarkerLvl v).params = s.params := rfl
@[simp] theorem State.setMarkerLvl_buf : (s.setMarkerLvl v).buf = s.buf := rfl
@[simp] theorem State.setMarkerLvl_acc : (s.setMarkerLvl v).acc = s.acc := rfl
@[simp] theorem State.setMarkerLvl_ts : (s.setMarkerLvl v).ts = s.ts := rfl
@[simp] theorem State.setMarkerLvl_budget : (s.setMarkerLvl v).budget = s.budget := rfl
@[simp] theorem State.setMarkerLvl_txb : (s.setMarkerLvl v).txb = s.txb := rfl
@[simp] theorem State.setMarkerLvl_started : (s.setMarkerLvl v).started = s.started := rfl
@[simp] theorem State.setMarkerLvl_tickEn : (s.setMarkerLvl v).tickEn = s.tickEn := rfl
@[simp] theorem State.setMarkerLvl_guard : (s.setMarkerLvl v).guard = s.guard := rfl
@[simp] theorem State.setMarkerLvl_irqMask : (s.setMarkerLvl v).irqMask = s.irqMask := rfl
@[simp] theorem State.setMarkerLvl_dataPinCfg : (s.setMarkerLvl v).dataPinCfg = s.dataPinCfg := rfl
@[simp] theorem State.setMarkerLvl_markerPinCfg : (s.setMarkerLvl v).markerPinCfg = s.markerPinCfg := rfl
@[simp] theorem State.setMarkerLvl_dataPinAct : (s.setMarkerLvl v).dataPinAct = s.dataPinAct := rfl
@[simp] theorem State.setMarkerLvl_markerPinAct : (s.setMarkerLvl v).markerPinAct = s.markerPinAct := rfl
@[simp] theorem State.setMarkerLvl_dataLvl : (s.setMarkerLvl v).dataLvl = s.dataLvl := rfl
@[simp] theorem State.setMarkerLvl_markerLvl : (s.setMarkerLvl v).markerLvl = v := rfl
@[simp] theorem State.setMarkerLvl_trace : (s.setMarkerLvl v).trace = s.trace := rfl
@[simp] theorem State.setMarkerLvl_enginePos : (s.setMarkerLvl v).enginePos = s.enginePos := rfl
@[simp] theorem State.setMarkerLvl_hostPos : (s.setMarkerLvl v).hostPos = s.hostPos := rfl
@[simp] theorem State.setMarkerLvl_schedule : (s.setMarkerLvl v).schedule = s.schedule := rfl
@[simp] theorem State.setMarkerLvl_strayReads : (s.setMarkerLvl v).strayReads = s.strayReads := rfl
end

section
variable (s : State) (v : EnginePos)
@[simp] theorem State.setEnginePos_params : (s.setEnginePos v).params = s.params := rfl
@[simp] theorem State.setEnginePos_buf : (s.setEnginePos v).buf = s.buf := rfl
@[simp] theorem State.setEnginePos_acc : (s.setEnginePos v).acc = s.acc := rfl
@[simp] theorem State.setEnginePos_ts : (s.setEnginePos v).ts = s.ts := rfl
@[simp] theorem State.setEnginePos_budget : (s.setEnginePos v).budget = s.budget := rfl
@[simp] theorem State.setEnginePos_txb : (s.setEnginePos v).txb = s.txb := rfl
@[simp] theorem State.setEnginePos_started : (s.setEnginePos v).started = s.started := rfl
@[simp] theorem State.setEnginePos_tickEn : (s.setEnginePos v).tickEn = s.tickEn := rfl
@[simp] theorem State.setEnginePos_guard : (s.setEnginePos v).guard = s.guard := rfl
@[simp] theorem State.setEnginePos_irqMask : (s.setEnginePos v).irqMask = s.irqMask := rfl
@[simp] theorem State.setEnginePos_dataPinCfg : (s.setEnginePos v).dataPinCfg = s.dataPinCfg := rfl
@[simp] theorem State.setEnginePos_markerPinCfg : (s.setEnginePos v).markerPinCfg = s.markerPinCfg := rfl
@[simp] theorem State.setEnginePos_dataPinAct : (s.setEnginePos v).dataPinAct = s.dataPinAct := rfl
@[simp] theorem State.setEnginePos_markerPinAct : (s.setEnginePos v).markerPinAct = s.markerPinAct := rfl
@[simp] theorem State.setEnginePos_dataLvl : (s.setEnginePos v).dataLvl = s.dataLvl := rfl
@[simp] theorem State.setEnginePos_markerLvl : (s.setEnginePos v).markerLvl = s.markerLvl := rfl
@[simp] theorem State.setEnginePos_trace : (s.setEnginePos v).trace = s.trace := rfl
@[simp] theorem State.setEnginePos_enginePos : (s.setEnginePos v).enginePos = v := rfl
@[simp] theorem State.setEnginePos_hostPos : (s.setEnginePos v).hostPos = s.hostPos := rfl
@[simp] theorem State.setEnginePos_schedule : (s.setEnginePos v).schedule = s.schedule := rfl
@[simp] theorem State.setEnginePos_strayReads : (s.setEnginePos v).strayReads = s.strayReads := rfl
end

section
variable (s : State) (v : HostPos)
@[simp] theorem State.setHostPos_params : (s.setHostPos v).params = s.params := rfl
@[simp] theorem State.setHostPos_buf : (s.setHostPos v).buf = s.buf := rfl
@[simp] theorem State.setHostPos_acc : (s.setHostPos v).acc = s.acc := rfl
@[simp] theorem State.setHostPos_ts : (s.setHostPos v).ts = s.ts := rfl
@[simp] theorem State.setHostPos_budget : (s.setHostPos v).budget = s.budget := rfl
@[simp] theorem State.setHostPos_txb : (s.setHostPos v).txb = s.txb := rfl
@[simp] theorem State.setHostPos_started : (s.setHostPos v).started = s.started := rfl
@[simp] theorem State.setHostPos_tickEn : (s.setHostPos v).tickEn = s.tickEn := rfl
@[simp] theorem State.setHostPos_guard : (s.setHostPos v).guard = s.guard := rfl
@[simp] theorem State.setHostPos_irqMask : (s.setHostPos v).irqMask = s.irqMask := rfl
@[simp] theorem State.setHostPos_dataPinCfg : (s.setHostPos v).dataPinCfg = s.dataPinCfg := rfl
@[simp] theorem State.setHostPos_markerPinCfg : (s.setHostPos v).markerPinCfg = s.markerPinCfg := rfl
@[simp] theorem State.setHostPos_dataPinAct : (s.setHostPos v).dataPinAct = s.dataPinAct := rfl
@[simp] theorem State.setHostPos_markerPinAct : (s.setHostPos v).markerPinAct = s.markerPinAct := rfl
@[simp] theorem State.setHostPos_dataLvl : (s.setHostPos v).dataLvl = s.dataLvl := rfl
@[simp] theorem State.setHostPos_markerLvl : (s.setHostPos v).markerLvl = s.markerLvl := rfl
@[simp] theorem State.setHostPos_trace : (s.setHostPos v).trace = s.trace := rfl
@[simp] theorem State.setHostPos_enginePos : (s.setHostPos v).enginePos = s.enginePos := rfl
@[simp] theorem State.setHostPos_hostPos : (s.setHostPos v).hostPos = v := rfl
@[simp] theorem State.setHostPos_schedule : (s.setHostPos v).schedule = s.schedule := rfl
@[simp] theorem State.setHostPos_strayReads : (s.setHostPos v).strayReads = s.strayReads := rfl
end

section
variable (s : State) (v : List Event)
@[simp] theorem State.setSchedule_params : (s.setSchedule v).params = s.params := rfl
@[simp] theorem State.setSchedule_buf : (s.setSchedule v).buf = s.buf := rfl
@[simp] theorem State.setSchedule_acc : (s.setSchedule v).acc = s.acc := rfl
@[simp] theorem State.setSchedule_ts : (s.setSchedule v).ts = s.ts := rfl
@[simp] theorem State.setSchedule_budget : (s.setSchedule v).budget = s.budget := rfl
@[simp] theorem State.setSchedule_txb : (s.setSchedule v).txb = s.txb := rfl
@[simp] theorem State.setSchedule_started : (s.setSchedule v).started = s.started := rfl
@[simp] theorem State.setSchedule_tickEn : (s.setSchedule v).tickEn = s.tickEn := rfl
@[simp] theorem State.setSchedule_guard : (s.setSchedule v).guard = s.guard := rfl
@[simp] theorem State.setSchedule_irqMask : (s.setSchedule v).irqMask = s.irqMask := rfl
@[simp] theorem State.setSchedule_dataPinCfg : (s.setSchedule v).dataPinCfg = s.dataPinCfg := rfl
@[simp] theorem State.setSchedule_markerPinCfg : (s.setSchedule v).markerPinCfg = s.markerPinCfg := rfl
@[simp] theorem State.setSchedule_dataPinAct : (s.setSchedule v).dataPinAct = s.dataPinAct := rfl
@[simp] theorem State.setSchedule_markerPinAct : (s.setSchedule v).markerPinAct = s.markerPinAct := rfl
@[simp] theorem State.setSchedule_dataLvl : (s.setSchedule v).dataLvl = s.dataLvl := rfl
@[simp] theorem State.setSchedule_markerLvl : (s.setSchedule v).markerLvl = s.markerLvl := rfl
@[simp] theorem State.setSchedule_trace : (s.setSchedule v).trace = s.trace := rfl
@[simp] theorem State.setSchedule_enginePos : (s.setSchedule v).enginePos = s.enginePos := rfl
@[simp] theorem State.setSchedule_hostPos : (s.setSchedule v).hostPos = s.hostPos := rfl
@[simp] theorem State.setSchedule_schedule : (s.setSchedule v).schedule = v := rfl
@[simp] theorem State.setSchedule_strayReads : (s.setSchedule v).strayReads = s.strayReads := rfl
end

section
variable (s : State) (v : Nat)
@[simp] theorem State.setStrayReads_params : (s.setStrayReads v).params = s.params := rfl
@[simp] theorem State.setStrayReads_buf : (s.setStrayReads v).buf = s.buf := rfl
@[simp] theorem State.setStrayReads_acc : (s.setStrayReads v).acc = s.acc := rfl
@[simp] theorem State.setStrayReads_ts : (s.setStrayReads v).ts = s.ts := rfl
@[simp] theorem State.setStrayReads_budget : (s.setStrayReads v).budget = s.budget := rfl
@[simp] theorem State.setStrayReads_txb : (s.setStrayReads v).txb = s.txb := rfl
@[simp] theorem State.setStrayReads_started : (s.setStrayReads v).started = s.started := rfl
@[simp] theorem State.setStrayReads_tickEn : (s.setStrayReads v).tickEn = s.tickEn := rfl
@[simp] theorem State.setStrayReads_guard : (s.setStrayReads v).guard = s.guard := rfl
@[simp] theorem State.setStrayReads_irqMask : (s.setStrayReads v).irqMask = s.irqMask := rfl
@[simp] theorem State.setStrayReads_dataPinCfg : (s.setStrayReads v).dataPinCfg = s.dataPinCfg := rfl
@[simp] theorem State.setStrayReads_markerPinCfg : (s.setStrayReads v).markerPinCfg = s.markerPinCfg := rfl
@[simp] theorem State.setStrayReads_dataPinAct : (s.setStrayReads v).dataPinAct = s.dataPinAct := rfl
@[simp] theorem State.setStrayReads_markerPinAct : (s.setStrayReads v).markerPinAct = s.markerPinAct := rfl
@[simp] theorem State.setStrayReads_dataLvl : (s.setStrayReads v).dataLvl = s.dataLvl := rfl
@[simp] theorem State.setStrayReads_markerLvl : (s.setStrayReads v).markerLvl = s.markerLvl := rfl
@[simp] theorem State.setStrayReads_trace : (s.setStrayReads v).trace = s.trace := rfl
@[simp] theorem State.setStrayReads_enginePos : (s.setStrayReads v).enginePos = s.enginePos := rfl
@[simp] theorem State.setStrayReads_hostPos : (s.setStrayReads v).hostPos = s.hostPos := rfl
@[simp] theorem State.setStrayReads_schedule : (s.setStrayReads v).schedule = s.schedule := rfl
@[simp] theorem State.setStrayReads_strayReads : (s.setStrayReads v).strayReads = v := rfl
end

section
variable (s : State) (item : TraceItem)
@[simp] theorem State.emit_params : (s.emit item).params = s.params := rfl
@[simp] theorem State.emit_buf : (s.emit item).buf = s.buf := rfl
@[simp] theorem State.emit_acc : (s.emit item).acc = s.acc := rfl
@[simp] theorem State.emit_ts : (s.emit item).ts = s.ts := rfl
@[simp] theorem State.emit_budget : (s.emit item).budget = s.budget := rfl
@[simp] theorem State.emit_txb : (s.emit item).txb = s.txb := rfl
@[simp] theorem State.emit_started : (s.emit item).started = s.started := rfl
@[simp] theorem State.emit_tickEn : (s.emit item).tickEn = s.tickEn := rfl
@[simp] theorem State.emit_guard : (s.emit item).guard = s.guard := rfl
@[simp] theorem State.emit_irqMask : (s.emit item).irqMask = s.irqMask := rfl
@[simp] theorem State.emit_dataPinCfg : (s.emit item).dataPinCfg = s.dataPinCfg := rfl
@[simp] theorem State.emit_markerPinCfg : (s.emit item).markerPinCfg = s.markerPinCfg := rfl
@[simp] theorem State.emit_dataPinAct : (s.emit item).dataPinAct = s.dataPinAct := rfl
@[simp] theorem State.emit_markerPinAct : (s.emit item).markerPinAct = s.markerPinAct := rfl
@[simp] theorem State.emit_dataLvl : (s.emit item).dataLvl = s.dataLvl := rfl
@[simp] theorem State.emit_markerLvl : (s.emit item).markerLvl = s.markerLvl := rfl
@[simp] theorem State.emit_trace : (s.emit item).trace = s.trace ++ [item] := rfl
@[simp] theorem State.emit_enginePos : (s.emit item).enginePos = s.enginePos := rfl
@[simp] theorem State.emit_hostPos : (s.emit item).hostPos = s.hostPos := rfl
@[simp] theorem State.emit_schedule : (s.emit item).schedule = s.schedule := rfl
@[simp] theorem State.emit_strayReads : (s.emit item).strayReads = s.strayReads := rfl
end

section
variable (s : State) (b : Bool)
@[simp] theorem requestMask_params : (requestMask b s).params = s.params := rfl
@[simp] theorem requestMask_buf : (requestMask b s).buf = s.buf := rfl
@[simp] theorem requestMask_acc : (requestMask b s).acc = s.acc := rfl
@[simp] theorem requestMask_ts : (requestMask b s).ts = s.ts := rfl
@[simp] theorem requestMask_budget : (requestMask b s).budget = s.budget := rfl
@[simp] theorem requestMask_txb : (requestMask b s).txb = s.txb := rfl
@[simp] theorem requestMask_started : (requestMask b s).started = s.started := rfl
@[simp] theorem requestMask_tickEn : (requestMask b s).tickEn = s.tickEn := rfl
@[simp] theorem requestMask_guard : (requestMask b s).guard = s.guard := rfl
@[simp] theorem requestMask_irqMask : (requestMask b s).irqMask = b := rfl
@[simp] theorem requestMask_dataPinCfg : (requestMask b s).dataPinCfg = s.dataPinCfg := rfl
@[simp] theorem requestMask_markerPinCfg : (requestMask b s).markerPinCfg = s.markerPinCfg := rfl
@[simp] theorem requestMask_dataPinAct : (requestMask b s).dataPinAct = s.dataPinAct := rfl
@[simp] theorem requestMask_markerPinAct : (requestMask b s).markerPinAct = s.markerPinAct := rfl
@[simp] theorem requestMask_dataLvl : (requestMask b s).dataLvl = s.dataLvl := rfl
@[simp] theorem requestMask_markerLvl : (requestMask b s).markerLvl = s.markerLvl := rfl
@[simp] theorem requestMask_trace : (requestMask b s).trace = s.trace ++ [.mask b] := rfl
@[simp] theorem requestMask_enginePos : (requestMask b s).enginePos = s.enginePos := rfl
@[simp] theorem requestMask_hostPos : (requestMask b s).hostPos = s.hostPos := rfl
@[simp] theorem requestMask_schedule : (requestMask b s).schedule = s.schedule := rfl
@[simp] theorem requestMask_strayReads : (requestMask b s).strayReads = s.strayReads := rfl
end

section
variable (s : State) (p : Pin) (l : Level) (d : Nat) (hold : Hold)
@[simp] theorem driveData_params : (driveData p l d hold s).params = s.params := rfl
@[simp] theorem driveData_buf : (driveData p l d hold s).buf = s.buf := rfl
@[simp] theorem driveData_acc : (driveData p l d hold s).acc = s.acc := rfl
@[simp] theorem driveData_ts : (driveData p l d hold s).ts = s.ts := rfl
@[simp] theorem driveData_budget : (driveData p l d hold s).budget = s.budget := rfl
@[simp] theorem driveData_txb : (driveData p l d hold s).txb = s.txb := rfl
@[simp] theorem driveData_started : (driveData p l d hold s).started = s.started := rfl
@[simp] theorem driveData_tickEn : (driveData p l d hold s).tickEn = s.tickEn := rfl
@[simp] theorem driveData_guard : (driveData p l d hold s).guard = s.guard := rfl
@[simp] theorem driveData_irqMask : (driveData p l d hold s).irqMask = s.irqMask := rfl
@[simp] theorem driveData_dataPinCfg : (driveData p l d hold s).dataPinCfg = s.dataPinCfg := rfl
@[simp] theorem driveData_markerPinCfg : (driveData p l d hold s).markerPinCfg = s.markerPinCfg := rfl
@[simp] theorem driveData_dataPinAct : (driveData p l d hold s).dataPinAct = s.dataPinAct := rfl
@[simp] theorem driveData_markerPinAct : (driveData p l d hold s).markerPinAct = s.markerPinAct := rfl
@[simp] theorem driveData_dataLvl : (driveData p l d hold s).dataLvl = .driven l := rfl
@[simp] theorem driveData_markerLvl : (driveData p l d hold s).markerLvl = s.markerLvl := rfl
@[simp] theorem driveData_trace : (driveData p l d hold s).trace = s.trace ++ [.seg p l d hold] := rfl
@[simp] theorem driveData_enginePos : (driveData p l d hold s).enginePos = s.enginePos := rfl
@[simp] theorem driveData_hostPos : (driveData p l d hold s).hostPos = s.hostPos := rfl
@[simp] theorem driveData_schedule : (driveData p l d hold s).schedule = s.schedule := rfl
@[simp] theorem driveData_strayReads : (driveData p l d hold s).strayReads = s.strayReads := rfl
end

section
variable (s : State) (l : Level)
@[simp] theorem driveMarker_params : (driveMarker l s).params = s.params := rfl
@[simp] theorem driveMarker_buf : (driveMarker l s).buf = s.buf := rfl
@[simp] theorem driveMarker_acc : (driveMarker l s).acc = s.acc := rfl
@[simp] theorem driveMarker_ts : (driveMarker l s).ts = s.ts := rfl
@[simp] theorem driveMarker_budget : (driveMarker l s).budget = s.budget := rfl
@[simp] theorem driveMarker_txb : (driveMarker l s).txb = s.txb := rfl
@[simp] theorem driveMarker_started : (driveMarker l s).started = s.started := rfl
@[simp] theorem driveMarker_tickEn : (driveMarker l s).tickEn = s.tickEn := rfl
@[simp] theorem driveMarker_guard : (driveMarker l s).guard = s.guard := rfl
@[simp] theorem driveMarker_irqMask : (driveMarker l s).irqMask = s.irqMask := rfl
@[simp] theorem driveMarker_dataPinCfg : (driveMarker l s).dataPinCfg = s.dataPinCfg := rfl
@[simp] theorem driveMarker_markerPinCfg : (driveMarker l s).markerPinCfg = s.markerPinCfg := rfl
@[simp] theorem driveMarker_dataPinAct : (driveMarker l s).dataPinAct = s.dataPinAct := rfl
@[simp] theorem driveMarker_markerPinAct : (driveMarker l s).markerPinAct = s.markerPinAct := rfl
@[simp] theorem driveMarker_dataLvl : (driveMarker l s).dataLvl = s.dataLvl := rfl
@[simp] theorem driveMarker_markerLvl : (driveMarker l s).markerLvl = .driven l := rfl
@[simp] theorem driveMarker_trace : (driveMarker l s).trace = s.trace ++ [.edge s.markerPinAct l] := rfl
@[simp] theorem driveMarker_enginePos : (driveMarker l s).enginePos = s.enginePos := rfl
@[simp] theorem driveMarker_hostPos : (driveMarker l s).hostPos = s.hostPos := rfl
@[simp] theorem driveMarker_schedule : (driveMarker l s).schedule = s.schedule := rfl
@[simp] theorem driveMarker_strayReads : (driveMarker l s).strayReads = s.strayReads := rfl
end

section
variable (s : State)
@[simp] theorem enterHandler_params : (enterHandler s).params = s.params := rfl
@[simp] theorem enterHandler_buf : (enterHandler s).buf = s.buf := rfl
@[simp] theorem enterHandler_acc : (enterHandler s).acc = s.acc := rfl
@[simp] theorem enterHandler_ts : (enterHandler s).ts = s.ts := rfl
@[simp] theorem enterHandler_budget : (enterHandler s).budget = s.budget := rfl
@[simp] theorem enterHandler_txb : (enterHandler s).txb = s.txb := rfl
@[simp] theorem enterHandler_started : (enterHandler s).started = s.started := rfl
@[simp] theorem enterHandler_tickEn : (enterHandler s).tickEn = s.tickEn := rfl
@[simp] theorem enterHandler_guard : (enterHandler s).guard = true := rfl
@[simp] theorem enterHandler_irqMask : (enterHandler s).irqMask = s.irqMask := rfl
@[simp] theorem enterHandler_dataPinCfg : (enterHandler s).dataPinCfg = s.dataPinCfg := rfl
@[simp] theorem enterHandler_markerPinCfg : (enterHandler s).markerPinCfg = s.markerPinCfg := rfl
@[simp] theorem enterHandler_dataPinAct : (enterHandler s).dataPinAct = s.dataPinAct := rfl
@[simp] theorem enterHandler_markerPinAct : (enterHandler s).markerPinAct = s.markerPinAct := rfl
@[simp] theorem enterHandler_dataLvl : (enterHandler s).dataLvl = s.dataLvl := rfl
@[simp] theorem enterHandler_markerLvl : (enterHandler s).markerLvl = s.markerLvl := rfl
@[simp] theorem enterHandler_trace : (enterHandler s).trace = s.trace := rfl
@[simp] theorem enterHandler_enginePos : (enterHandler s).enginePos = .e1 := rfl
@[simp] theorem enterHandler_hostPos : (enterHandler s).hostPos = s.hostPos := rfl
@[simp] theorem enterHandler_schedule : (enterHandler s).schedule = s.schedule := rfl
@[simp] theorem enterHandler_strayReads : (enterHandler s).strayReads = s.strayReads := rfl
@[simp] theorem exitHandler_params : (exitHandler s).params = s.params := rfl
@[simp] theorem exitHandler_buf : (exitHandler s).buf = s.buf := rfl
@[simp] theorem exitHandler_acc : (exitHandler s).acc = s.acc := rfl
@[simp] theorem exitHandler_ts : (exitHandler s).ts = s.ts := rfl
@[simp] theorem exitHandler_budget : (exitHandler s).budget = s.budget := rfl
@[simp] theorem exitHandler_txb : (exitHandler s).txb = s.txb := rfl
@[simp] theorem exitHandler_started : (exitHandler s).started = s.started := rfl
@[simp] theorem exitHandler_tickEn : (exitHandler s).tickEn = s.tickEn := rfl
@[simp] theorem exitHandler_guard : (exitHandler s).guard = false := rfl
@[simp] theorem exitHandler_irqMask : (exitHandler s).irqMask = s.irqMask := rfl
@[simp] theorem exitHandler_dataPinCfg : (exitHandler s).dataPinCfg = s.dataPinCfg := rfl
@[simp] theorem exitHandler_markerPinCfg : (exitHandler s).markerPinCfg = s.markerPinCfg := rfl
@[simp] theorem exitHandler_dataPinAct : (exitHandler s).dataPinAct = s.dataPinAct := rfl
@[simp] theorem exitHandler_markerPinAct : (exitHandler s).markerPinAct = s.markerPinAct := rfl
@[simp] theorem exitHandler_dataLvl : (exitHandler s).dataLvl = s.dataLvl := rfl
@[simp] theorem exitHandler_markerLvl : (exitHandler s).markerLvl = s.markerLvl := rfl
@[simp] theorem exitHandler_trace : (exitHandler s).trace = s.trace := rfl
@[simp] theorem exitHandler_enginePos : (exitHandler s).enginePos = .idle := rfl
@[simp] theorem exitHandler_hostPos : (exitHandler s).hostPos = s.hostPos := rfl
@[simp] theorem exitHandler_schedule : (exitHandler s).schedule = s.schedule := rfl
@[simp] theorem exitHandler_strayReads : (exitHandler s).strayReads = s.strayReads := rfl
@[simp] theorem stopHandler_params : (stopHandler s).params = s.params := rfl
@[simp] theorem stopHandler_buf : (stopHandler s).buf = s.buf := rfl
@[simp] theorem stopHandler_acc : (stopHandler s).acc = s.acc := rfl
@[simp] theorem stopHandler_ts : (stopHandler s).ts = s.ts := rfl
@[simp] theorem stopHandler_budget : (stopHandler s).budget = s.budget := rfl
@[simp] theorem stopHandler_txb : (stopHandler s).txb = s.txb := rfl
@[simp] theorem stopHandler_started : (stopHandler s).started = s.started := rfl
@[simp] theorem stopHandler_tickEn : (stopHandler s).tickEn = s.tickEn := rfl
@[simp] theorem stopHandler_guard : (stopHandler s).guard = s.guard := rfl
@[simp] theorem stopHandler_irqMask : (stopHandler s).irqMask = s.irqMask := rfl
@[simp] theorem stopHandler_dataPinCfg : (stopHandler s).dataPinCfg = s.dataPinCfg := rfl
@[simp] theorem stopHandler_markerPinCfg : (stopHandler s).markerPinCfg = s.markerPinCfg := rfl
@[simp] theorem stopHandler_dataPinAct : (stopHandler s).dataPinAct = s.dataPinAct := rfl
@[simp] theorem stopHandler_markerPinAct : (stopHandler s).markerPinAct = s.markerPinAct := rfl
@[simp] theorem stopHandler_dataLvl : (stopHandler s).dataLvl = s.dataLvl := rfl
@[simp] theorem stopHandler_markerLvl : (stopHandler s).markerLvl = s.markerLvl := rfl
@[simp] theorem stopHandler_trace : (stopHandler s).trace = s.trace := rfl
@[simp] theorem stopHandler_enginePos : (stopHandler s).enginePos = .x0 := rfl
@[simp] theorem stopHandler_hostPos : (stopHandler s).hostPos = s.hostPos := rfl
@[simp] theorem stopHandler_schedule : (stopHandler s).schedule = s.schedule := rfl
@[simp] theorem stopHandler_strayReads : (stopHandler s).strayReads = s.strayReads := rfl
@[simp] theorem loadBudget_params : (loadBudget s).params = s.params := rfl
@[simp] theorem loadBudget_buf : (loadBudget s).buf = s.buf := rfl
@[simp] theorem loadBudget_acc : (loadBudget s).acc = s.acc := rfl
@[simp] theorem loadBudget_ts : (loadBudget s).ts = s.ts := rfl
@[simp] theorem loadBudget_budget : (loadBudget s).budget = s.params.tickBudget := rfl
@[simp] theorem loadBudget_txb : (loadBudget s).txb = s.txb := rfl
@[simp] theorem loadBudget_started : (loadBudget s).started = s.started := rfl
@[simp] theorem loadBudget_tickEn : (loadBudget s).tickEn = s.tickEn := rfl
@[simp] theorem loadBudget_guard : (loadBudget s).guard = s.guard := rfl
@[simp] theorem loadBudget_irqMask : (loadBudget s).irqMask = s.irqMask := rfl
@[simp] theorem loadBudget_dataPinCfg : (loadBudget s).dataPinCfg = s.dataPinCfg := rfl
@[simp] theorem loadBudget_markerPinCfg : (loadBudget s).markerPinCfg = s.markerPinCfg := rfl
@[simp] theorem loadBudget_dataPinAct : (loadBudget s).dataPinAct = s.dataPinAct := rfl
@[simp] theorem loadBudget_markerPinAct : (loadBudget s).markerPinAct = s.markerPinAct := rfl
@[simp] theorem loadBudget_dataLvl : (loadBudget s).dataLvl = s.dataLvl := rfl
@[simp] theorem loadBudget_markerLvl : (loadBudget s).markerLvl = s.markerLvl := rfl
@[simp] theorem loadBudget_trace : (loadBudget s).trace = s.trace := rfl
@[simp] theorem loadBudget_enginePos : (loadBudget s).enginePos = .l0 := rfl
@[simp] theorem loadBudget_hostPos : (loadBudget s).hostPos = s.hostPos := rfl
@[simp] theorem loadBudget_schedule : (loadBudget s).schedule = s.schedule := rfl
@[simp] theorem loadBudget_strayReads : (loadBudget s).strayReads = s.strayReads := rfl
@[simp] theorem takeTick_params : (takeTick s).params = s.params := rfl
@[simp] theorem takeTick_buf : (takeTick s).buf = s.buf := rfl
@[simp] theorem takeTick_acc : (takeTick s).acc = s.acc := rfl
@[simp] theorem takeTick_ts : (takeTick s).ts = s.ts := rfl
@[simp] theorem takeTick_budget : (takeTick s).budget = s.params.tickBudget := rfl
@[simp] theorem takeTick_txb : (takeTick s).txb = s.txb := rfl
@[simp] theorem takeTick_started : (takeTick s).started = s.started := rfl
@[simp] theorem takeTick_tickEn : (takeTick s).tickEn = s.tickEn := rfl
@[simp] theorem takeTick_guard : (takeTick s).guard = true := rfl
@[simp] theorem takeTick_irqMask : (takeTick s).irqMask = s.irqMask := rfl
@[simp] theorem takeTick_dataPinCfg : (takeTick s).dataPinCfg = s.dataPinCfg := rfl
@[simp] theorem takeTick_markerPinCfg : (takeTick s).markerPinCfg = s.markerPinCfg := rfl
@[simp] theorem takeTick_dataPinAct : (takeTick s).dataPinAct = s.dataPinAct := rfl
@[simp] theorem takeTick_markerPinAct : (takeTick s).markerPinAct = s.markerPinAct := rfl
@[simp] theorem takeTick_dataLvl : (takeTick s).dataLvl = s.dataLvl := rfl
@[simp] theorem takeTick_markerLvl : (takeTick s).markerLvl = s.markerLvl := rfl
@[simp] theorem takeTick_trace : (takeTick s).trace = s.trace := rfl
@[simp] theorem takeTick_enginePos : (takeTick s).enginePos = .l0 := rfl
@[simp] theorem takeTick_hostPos : (takeTick s).hostPos = s.hostPos := rfl
@[simp] theorem takeTick_schedule : (takeTick s).schedule = s.schedule := rfl
@[simp] theorem takeTick_strayReads : (takeTick s).strayReads = s.strayReads := rfl
@[simp] theorem stopProcedure_params : (stopProcedure s).params = s.params := rfl
@[simp] theorem stopProcedure_buf : (stopProcedure s).buf = s.buf := rfl
@[simp] theorem stopProcedure_acc : (stopProcedure s).acc = 0 := rfl
@[simp] theorem stopProcedure_ts : (stopProcedure s).ts = s.ts := rfl
@[simp] theorem stopProcedure_budget : (stopProcedure s).budget = s.budget := rfl
@[simp] theorem stopProcedure_txb : (stopProcedure s).txb = s.txb := rfl
@[simp] theorem stopProcedure_started : (stopProcedure s).started = false := rfl
@[simp] theorem stopProcedure_tickEn : (stopProcedure s).tickEn = false := rfl
@[simp] theorem stopProcedure_guard : (stopProcedure s).guard = s.guard := rfl
@[simp] theorem stopProcedure_irqMask : (stopProcedure s).irqMask = s.irqMask := rfl
@[simp] theorem stopProcedure_dataPinCfg : (stopProcedure s).dataPinCfg = s.dataPinCfg := rfl
@[simp] theorem stopProcedure_markerPinCfg : (stopProcedure s).markerPinCfg = s.markerPinCfg := rfl
@[simp] theorem stopProcedure_dataPinAct : (stopProcedure s).dataPinAct = s.dataPinAct := rfl
@[simp] theorem stopProcedure_markerPinAct : (stopProcedure s).markerPinAct = s.markerPinAct := rfl
@[simp] theorem stopProcedure_dataLvl : (stopProcedure s).dataLvl = s.dataLvl := rfl
@[simp] theorem stopProcedure_markerLvl : (stopProcedure s).markerLvl = s.markerLvl := rfl
@[simp] theorem stopProcedure_trace : (stopProcedure s).trace = s.trace := rfl
@[simp] theorem stopProcedure_enginePos : (stopProcedure s).enginePos = s.enginePos := rfl
@[simp] theorem stopProcedure_hostPos : (stopProcedure s).hostPos = s.hostPos := rfl
@[simp] theorem stopProcedure_schedule : (stopProcedure s).schedule = s.schedule := rfl
@[simp] theorem stopProcedure_strayReads : (stopProcedure s).strayReads = s.strayReads := rfl
end

section
variable (s : State)
@[simp] theorem countStrayRead_params : (countStrayRead s).params = s.params := by unfold countStrayRead; split <;> rfl
@[simp] theorem countStrayRead_buf : (countStrayRead s).buf = s.buf := by unfold countStrayRead; split <;> rfl
@[simp] theorem countStrayRead_acc : (countStrayRead s).acc = s.acc := by unfold countStrayRead; split <;> rfl
@[simp] theorem countStrayRead_ts : (countStrayRead s).ts = s.ts := by unfold countStrayRead; split <;> rfl
@[simp] theorem countStrayRead_budget : (countStrayRead s).budget = s.budget := by unfold countStrayRead; split <;> rfl
@[simp] theorem countStrayRead_txb : (countStrayRead s).txb = s.txb := by unfold countStrayRead; split <;> rfl
@[simp] theorem countStrayRead_started : (countStrayRead s).started = s.started := by unfold countStrayRead; split <;> rfl
@[simp] theorem countStrayRead_tickEn : (countStrayRead s).tickEn = s.tickEn := by unfold countStrayRead; split <;> rfl
@[simp] theorem countStrayRead_guard : (countStrayRead s).guard = s.guard := by unfold countStrayRead; split <;> rfl
@[simp] theorem countStrayRead_irqMask : (countStrayRead s).irqMask = s.irqMask := by unfold countStrayRead; split <;> rfl
@[simp] theorem countStrayRead_dataPinCfg : (countStrayRead s).dataPinCfg = s.dataPinCfg := by unfold countStrayRead; split <;> rfl
@[simp] theorem countStrayRead_markerPinCfg : (countStrayRead s).markerPinCfg = s.markerPinCfg := by unfold countStrayRead; split <;> rfl
@[simp] theorem countStrayRead_dataPinAct : (countStrayRead s).dataPinAct = s.dataPinAct := by unfold countStrayRead; split <;> rfl
@[simp] theorem countStrayRead_markerPinAct : (countStrayRead s).markerPinAct = s.markerPinAct := by unfold countStrayRead; split <;> rfl
@[simp] theorem countStrayRead_dataLvl : (countStrayRead s).dataLvl = s.dataLvl := by unfold countStrayRead; split <;> rfl
@[simp] theorem countStrayRead_markerLvl : (countStrayRead s).markerLvl = s.markerLvl := by unfold countStrayRead; split <;> rfl
@[simp] theorem countStrayRead_trace : (countStrayRead s).trace = s.trace := by unfold countStrayRead; split <;> rfl
@[simp] theorem countStrayRead_enginePos : (countStrayRead s).enginePos = s.enginePos := by unfold countStrayRead; split <;> rfl
@[simp] theorem countStrayRead_hostPos : (countStrayRead s).hostPos = s.hostPos := by unfold countStrayRead; split <;> rfl
@[simp] theorem countStrayRead_schedule : (countStrayRead s).schedule = s.schedule := by unfold countStrayRead; split <;> rfl
theorem countStrayRead_strayReads : (countStrayRead s).strayReads =
    if (memRead s ((s.ts : Int) - 1)).isNone then s.strayReads + 1 else s.strayReads := by
  unfold countStrayRead; split <;> rfl
end

section
variable (s : State) (value : Byte) (pin : Pin)
@[simp] theorem transmit_params : (transmit value pin s).params = s.params := by
  simp [transmit, sendRelease, sendStopBits, sendDataBits, sendDataBit, sendStartBit, sendLatch]
@[simp] theorem transmit_buf : (transmit value pin s).buf = s.buf := by
  simp [transmit, sendRelease, sendStopBits, sendDataBits, sendDataBit, sendStartBit, sendLatch]
@[simp] theorem transmit_acc : (transmit value pin s).acc = s.acc := by
  simp [transmit, sendRelease, sendStopBits, sendDataBits, sendDataBit, sendStartBit, sendLatch]
@[simp] theorem transmit_ts : (transmit value pin s).ts = s.ts := by
  simp [transmit, sendRelease, sendStopBits, sendDataBits, sendDataBit, sendStartBit, sendLatch]
@[simp] theorem transmit_budget : (transmit value pin s).budget = s.budget := by
  simp [transmit, sendRelease, sendStopBits, sendDataBits, sendDataBit, sendStartBit, sendLatch]
@[simp] theorem transmit_txb : (transmit value pin s).txb = value := by
  simp [transmit, sendRelease, sendStopBits, sendDataBits, sendDataBit, sendStartBit, sendLatch]
@[simp] theorem transmit_started : (transmit value pin s).started = s.started := by
  simp [transmit, sendRelease, sendStopBits, sendDataBits, sendDataBit, sendStartBit, sendLatch]
@[simp] theorem transmit_tickEn : (transmit value pin s).tickEn = s.tickEn := by
  simp [transmit, sendRelease, sendStopBits, sendDataBits, sendDataBit, sendStartBit, sendLatch]
@[simp] theorem transmit_guard : (transmit value pin s).guard = s.guard := by
  simp [transmit, sendRelease, sendStopBits, sendDataBits, sendDataBit, sendStartBit, sendLatch]
@[simp] theorem transmit_irqMask : (transmit value pin s).irqMask = false := by
  simp [transmit, sendRelease, sendStopBits, sendDataBits, sendDataBit, sendStartBit, sendLatch]
@[simp] theorem transmit_dataPinCfg : (transmit value pin s).dataPinCfg = s.dataPinCfg := by
  simp [transmit, sendRelease, sendStopBits, sendDataBits, sendDataBit, sendStartBit, sendLatch]
@[simp] theorem transmit_markerPinCfg : (transmit value pin s).markerPinCfg = s.markerPinCfg := by
  simp [transmit, sendRelease, sendStopBits, sendDataBits, sendDataBit, sendStartBit, sendLatch]
@[simp] theorem transmit_dataPinAct : (transmit value pin s).dataPinAct = s.dataPinAct := by
  simp [transmit, sendRelease, sendStopBits, sendDataBits, sendDataBit, sendStartBit, sendLatch]
@[simp] theorem transmit_markerPinAct : (transmit value pin s).markerPinAct = s.markerPinAct := by
  simp [transmit, sendRelease, sendStopBits, sendDataBits, sendDataBit, sendStartBit, sendLatch]
@[simp] theorem transmit_dataLvl : (transmit value pin s).dataLvl = .driven .high := by
  simp [transmit, sendRelease, sendStopBits, sendDataBits, sendDataBit, sendStartBit, sendLatch]
@[simp] theorem transmit_markerLvl : (transmit value pin s).markerLvl = s.markerLvl := by
  simp [transmit, sendRelease, sendStopBits, sendDataBits, sendDataBit, sendStartBit, sendLatch]
@[simp] theorem transmit_trace : (transmit value pin s).trace = s.trace ++ slotItems pin value := by
  simp [transmit, sendRelease, sendStopBits, sendDataBits, sendDataBit, sendStartBit, sendLatch, slotItems]
@[simp] theorem transmit_enginePos : (transmit value pin s).enginePos = s.enginePos := by
  simp [transmit, sendRelease, sendStopBits, sendDataBits, sendDataBit, sendStartBit, sendLatch]
@[simp] theorem transmit_hostPos : (transmit value pin s).hostPos = s.hostPos := by
  simp [transmit, sendRelease, sendStopBits, sendDataBits, sendDataBit, sendStartBit, sendLatch]
@[simp] theorem transmit_schedule : (transmit value pin s).schedule = s.schedule := by
  simp [transmit, sendRelease, sendStopBits, sendDataBits, sendDataBit, sendStartBit, sendLatch]
@[simp] theorem transmit_strayReads : (transmit value pin s).strayReads = s.strayReads := by
  simp [transmit, sendRelease, sendStopBits, sendDataBits, sendDataBit, sendStartBit, sendLatch]
end

end Sys2Proof.Machine
end

