-- ==== Sys2Proof/Laws/Ops.lean ====
section
/-! SUPPORT. What the shared operations can do: sequencing, the memory primitives and the tests on flags. -/

namespace Sys2Proof.Machine

@[simp] theorem andThen_next (s : State) (f : State → Result) : andThen (.next s) f = f s := rfl
@[simp] theorem andThen_fault (e : Fault) (f : State → Result) : andThen (.fault e) f = .fault e := rfl
@[simp] theorem andThen_refused (e : Refusal) (f : State → Result) : andThen (.refused e) f = .refused e := rfl

theorem andThen_assoc (r : Result) (f g : State → Result) :
    andThen (andThen r f) g = andThen r fun s => andThen (f s) g := by
  cases r <;> rfl

/-- A sequence answers a next state exactly when both parts do. -/
theorem andThen_eq_next {r : Result} {f : State → Result} {t : State} :
    andThen r f = .next t ↔ ∃ s, r = .next s ∧ f s = .next t := by
  cases r <;> simp

/-- A sequence faults in its first or in its second part. -/
theorem andThen_eq_fault {r : Result} {f : State → Result} {e : Fault} :
    andThen r f = .fault e ↔ r = .fault e ∨ ∃ s, r = .next s ∧ f s = .fault e := by
  cases r <;> simp

theorem microRun_add (micro : State → Result) (j k : Nat) (s : State) :
    microRun micro (j + k) s = andThen (microRun micro j s) (microRun micro k) := by
  induction j generalizing s with
  | zero => simp [microRun]
  | succ j ih =>
    rw [Nat.succ_add]
    simp only [microRun, andThen_assoc]
    congr 1
    funext t
    exact ih t

/-- MemRead inside 0..N-1 (00_scope.md R14). -/
theorem memRead_inside {s : State} {a : Int} (h : 0 ≤ a ∧ a < s.params.n) :
    memRead s a = some (s.bufAt a.toNat) := by
  simp [memRead, h]

/-- MemRead has no value outside 0..N-1. -/
theorem memRead_eq_none {s : State} {a : Int} : memRead s a = none ↔ ¬(0 ≤ a ∧ a < s.params.n) := by
  simp [memRead]

/-- MemRead sees the buffer and N alone. -/
theorem memRead_congr {s t : State} (a : Int) (hb : t.buf = s.buf) (hp : t.params = s.params) :
    memRead t a = memRead s a := by
  simp [memRead, State.bufAt, hb, hp]

/-- The byte of a slot whose channel is in 1..N (42_frame_tick.md R156). -/
theorem slotByte_inside {s : State} (h1 : 1 ≤ s.ts) (h2 : s.ts ≤ s.params.n) : slotByte s = s.bufAt (s.ts - 1) := by
  rw [slotByte, memRead_inside (by omega), Option.getD_some]
  congr 1
  omega

theorem countStrayRead_inside {s : State} (h1 : 1 ≤ s.ts) (h2 : s.ts ≤ s.params.n) : countStrayRead s = s := by
  rw [countStrayRead, memRead_inside (by omega)]
  rfl

/-- The byte of a slot whose TS is no channel is free, and another at the next such read (log 8). -/
theorem slotByte_outside {s : State} (h : s.ts < 1 ∨ s.params.n < s.ts) :
    slotByte s = Config.strayByte s.strayReads ∧ countStrayRead s = s.setStrayReads (s.strayReads + 1) := by
  have hr : memRead s ((s.ts : Int) - 1) = none := memRead_eq_none.mpr (by omega)
  simp [slotByte, countStrayRead, hr]

theorem slotByte_driveMarker (l : Level) (s : State) : slotByte (driveMarker l s) = slotByte s := rfl

theorem countStrayRead_driveMarker (l : Level) (s : State) :
    countStrayRead (driveMarker l s) = driveMarker l (countStrayRead s) := by
  unfold countStrayRead
  rw [memRead_congr (s := s) _ (by simp) (by simp), driveMarker_ts]
  split <;> rfl

/-- MemWrite inside 0..N-1 (00_scope.md R14). -/
theorem memWrite_inside {s : State} {a : Int} (v : Byte) (h : 0 ≤ a ∧ a < s.params.n) :
    memWrite s a v = .next (s.setBuf (cellWrite s.buf a.toNat v)) := by
  simp [memWrite, h]

theorem memWrite_eq_next {s t : State} {a : Int} {v : Byte} :
    memWrite s a v = .next t ↔ (0 ≤ a ∧ a < s.params.n) ∧ t = s.setBuf (cellWrite s.buf a.toNat v) := by
  unfold memWrite
  split <;> simp_all [eq_comm]

theorem tickAccepted_eq_true {s : State} :
    tickAccepted s = true ↔ s.tickEn = true ∧ s.guard = false ∧ s.irqMask = false := by
  simp [tickAccepted, and_assoc]

theorem hostMayStep_of_idle {s : State} (h : s.enginePos = .idle) : hostMayStep s = true := by
  simp [hostMayStep, h]

/-- With a host that is not concurrent, HOST steps outside invocations only (20_memory.md R71 (a)). -/
theorem hostMayStep_sequential {s : State} (h : s.params.concurrentHost = false) :
    hostMayStep s = true ↔ s.enginePos = .idle := by
  simp [hostMayStep, h]

end Sys2Proof.Machine
end

