-- ==== Sys2Proof/Laws/Engine.lean ====
section
/-! SUPPORT. What SEND_BYTE, FRAME_START, CHANNEL_SLOT, ADVANCE and a unit do, each said once as the state it leaves, and
that the position inside an invocation commutes with what the micro-steps do. -/

namespace Sys2Proof.Machine

/-- SEND_BYTE whole (41_byte_transmitter.md R140). -/
theorem transmit_eq (v : Byte) (pin : Pin) (s : State) :
    transmit v pin s = { s with
      txb := v, irqMask := false, dataLvl := .driven .high, trace := s.trace ++ slotItems pin v } := by
  apply State.ext <;> simp

/-- FRAME_START with the budget for it (42_frame_tick.md R155). -/
theorem execFrameStart_commits {s : State} (h : frameStartCost ≤ s.budget) :
    execFrameStart s = .next { s with
      budget := s.budget - frameStartCost, txb := startCode, irqMask := false, dataLvl := .driven .high,
      enginePos := .a0,
      trace := s.trace ++ (.seg s.dataPinAct .low s.params.breakBits .atleast
        :: .seg s.dataPinAct .high s.params.mabBits .atleast :: slotItems s.dataPinAct startCode) } := by
  simp only [execFrameStart, Nat.not_lt.mpr h, if_false, Host.Outcome.next.injEq]
  apply State.ext <;> simp [frameCharge, frameMark, frameBreak]

/-- FRAME_START without the budget for it (R153). -/
theorem execFrameStart_defers {s : State} (h : s.budget < frameStartCost) :
    execFrameStart s = .next { s with enginePos := .x0 } := by
  simp [execFrameStart, h]
  rfl

/-- CHANNEL_SLOT with the budget for it, whatever TS is (R156; log 8). -/
theorem execChannelSlot_sends {s : State} (h : slotCost ≤ s.budget) :
    execChannelSlot s = .next { s with
      budget := s.budget - slotCost, txb := slotByte s, irqMask := false, dataLvl := .driven .high,
      markerLvl := .driven .low, enginePos := .a0, strayReads := (countStrayRead s).strayReads,
      trace := s.trace ++ (.edge s.markerPinAct .low :: slotItems s.dataPinAct (slotByte s)) } := by
  simp only [execChannelSlot, Nat.not_lt.mpr h, if_false, slotByte_driveMarker, countStrayRead_driveMarker,
    Host.Outcome.next.injEq]
  apply State.ext <;> simp [slotCharge]

/-- CHANNEL_SLOT with the budget for it and a channel in 1..N (R156). -/
theorem execChannelSlot_commits {s : State} (h : slotCost ≤ s.budget) (h1 : 1 ≤ s.ts) (h2 : s.ts ≤ s.params.n) :
    execChannelSlot s = .next { s with
      budget := s.budget - slotCost, txb := s.bufAt (s.ts - 1), irqMask := false, dataLvl := .driven .high,
      markerLvl := .driven .low, enginePos := .a0,
      trace := s.trace ++ (.edge s.markerPinAct .low :: slotItems s.dataPinAct (s.bufAt (s.ts - 1))) } := by
  rw [execChannelSlot_sends h, slotByte_inside h1 h2, countStrayRead_inside h1 h2]

/-- CHANNEL_SLOT with the budget for it and a TS that is no channel sends a free byte (log 8). -/
theorem execChannelSlot_strays {s : State} (h : slotCost ≤ s.budget) (ht : s.ts < 1 ∨ s.params.n < s.ts) :
    execChannelSlot s = .next { s with
      budget := s.budget - slotCost, txb := Config.strayByte s.strayReads, irqMask := false, dataLvl := .driven .high,
      markerLvl := .driven .low, enginePos := .a0, strayReads := s.strayReads + 1,
      trace := s.trace ++
        (.edge s.markerPinAct .low :: slotItems s.dataPinAct (Config.strayByte s.strayReads)) } := by
  rw [execChannelSlot_sends h, (slotByte_outside ht).1, (slotByte_outside ht).2]
  rfl

/-- CHANNEL_SLOT without the budget for it (R153). -/
theorem execChannelSlot_defers {s : State} (h : s.budget < slotCost) :
    execChannelSlot s = .next { s with enginePos := .x0 } := by
  simp [execChannelSlot, h]
  rfl

/-- ADVANCE at the end of a frame (R157). -/
theorem advanceTo_ends {s : State} {t : Nat} (h : s.acc < t) :
    advanceTo t s = { s with
      ts := 0, markerLvl := .driven .high, enginePos := .x0, trace := s.trace ++ [.edge s.markerPinAct .high] } := by
  rw [advanceTo, if_pos h]
  rfl

/-- ADVANCE inside a frame (R157). -/
theorem advanceTo_goes_on {s : State} {t : Nat} (h : t ≤ s.acc) :
    advanceTo t s = { s with ts := t, enginePos := .l0 } := by
  rw [advanceTo, if_neg (Nat.not_lt.mpr h)]
  rfl

theorem performUnit_frame {s : State} (h : s.ts = 0) : performUnit s = execFrameStart s := by
  simp [performUnit, h]

theorem performUnit_slot {s : State} (h : s.ts ≠ 0) : performUnit s = execChannelSlot s := by
  simp [performUnit, h]

/-- A unit always answers: it stops the handler, the budget being too small for some unit, or charges at least the
cheaper unit's cost and leaves ADVANCE next. -/
theorem performUnit_answers (s : State) : ∃ t, performUnit s = .next t ∧
    ((t = stopHandler s ∧ s.budget < frameStartCost) ∨ (t.enginePos = .a0 ∧ t.budget + slotCost ≤ s.budget)) := by
  by_cases ht : s.ts = 0
  · rw [performUnit_frame ht]
    by_cases hb : s.budget < frameStartCost
    · exact ⟨_, execFrameStart_defers hb, .inl ⟨rfl, hb⟩⟩
    · refine ⟨_, execFrameStart_commits (Nat.not_lt.mp hb), .inr ⟨rfl, ?_⟩⟩
      simp only [frameStartCost, slotCost] at *
      omega
  · rw [performUnit_slot ht]
    by_cases hb : s.budget < slotCost
    · exact ⟨_, execChannelSlot_defers hb, .inl ⟨rfl, by simp only [slotCost, frameStartCost] at *; omega⟩⟩
    · refine ⟨_, execChannelSlot_sends (Nat.not_lt.mp hb), .inr ⟨rfl, ?_⟩⟩
      simp only [slotCost] at *
      omega

/-! ### The position commutes with what the micro-steps do -/

theorem driveData_setEnginePos (s : State) (q : EnginePos) (p : Pin) (l : Level) (d : Nat) (h : Hold) :
    driveData p l d h (s.setEnginePos q) = (driveData p l d h s).setEnginePos q := rfl

theorem driveMarker_setEnginePos (s : State) (q : EnginePos) (l : Level) :
    driveMarker l (s.setEnginePos q) = (driveMarker l s).setEnginePos q := rfl

theorem requestMask_setEnginePos (s : State) (q : EnginePos) (b : Bool) :
    requestMask b (s.setEnginePos q) = (requestMask b s).setEnginePos q := rfl

theorem setTxb_setEnginePos (s : State) (q : EnginePos) (v : Byte) :
    (s.setEnginePos q).setTxb v = (s.setTxb v).setEnginePos q := rfl

theorem setBudget_setEnginePos (s : State) (q : EnginePos) (v : Nat) :
    (s.setEnginePos q).setBudget v = (s.setBudget v).setEnginePos q := rfl

theorem setEnginePos_setEnginePos (s : State) (q r : EnginePos) :
    (s.setEnginePos q).setEnginePos r = s.setEnginePos r := rfl

theorem countStrayRead_setEnginePos (s : State) (q : EnginePos) :
    countStrayRead (s.setEnginePos q) = (countStrayRead s).setEnginePos q := by
  unfold countStrayRead
  rw [memRead_congr (s := s) _ (by simp) (by simp), State.setEnginePos_ts]
  split <;> rfl

theorem transmit_setEnginePos (v : Byte) (pin : Pin) (s : State) (q : EnginePos) :
    transmit v pin (s.setEnginePos q) = (transmit v pin s).setEnginePos q := by
  apply State.ext <;> simp

theorem advanceTo_setEnginePos (t : Nat) (s : State) (q : EnginePos) :
    advanceTo t (s.setEnginePos q) = advanceTo t s := by
  by_cases h : s.acc < t
  · rw [advanceTo_ends h, advanceTo_ends (s := s.setEnginePos q) h]
    rfl
  · rw [advanceTo_goes_on (Nat.not_lt.mp h), advanceTo_goes_on (s := s.setEnginePos q) (Nat.not_lt.mp h)]
    rfl

/-- ADVANCE stops the handler or goes on at L0 with the budget as it was. -/
theorem advanceTo_position (t : Nat) (s : State) :
    (advanceTo t s).enginePos = .x0 ∨ (advanceTo t s).enginePos = .l0 ∧ (advanceTo t s).budget = s.budget := by
  by_cases h : s.acc < t
  · rw [advanceTo_ends h]
    exact .inl rfl
  · rw [advanceTo_goes_on (Nat.not_lt.mp h)]
    exact .inr ⟨rfl, rfl⟩

end Sys2Proof.Machine
end

