-- ==== Sys2Proof/Laws/Memory.lean ====
section
/-! SUPPORT. The Frame Buffer: a read after a write, the canonical form, and that equal contents are equal data. -/

namespace Sys2Proof.Machine

/-- A read after a write: the written index reads the new byte, every other as before. -/
theorem cellRead_cellWrite (m : List Host.Cell) (n lo : Nat) (a c : Nat) (b : Byte)
    (h : Memory.wfFrom n lo m = true) :
    cellRead (cellWrite m a b) c = if c = a then b else cellRead m c := by
  induction m generalizing lo with
  | nil =>
    by_cases hb : b = 0#8
    · simp [cellWrite, cellRead, hb]
    · simp [cellWrite, cellRead, hb]
  | cons cell rest ih =>
    obtain ⟨k, v⟩ := cell
    simp only [Memory.wfFrom, Bool.and_eq_true, decide_eq_true_eq] at h
    obtain ⟨⟨⟨h1, h2⟩, h3⟩, h4⟩ := h
    have rise : ∀ (r : List Host.Cell) (lo' : Nat), Memory.wfFrom n lo' r = true → ∀ x, x < lo' → cellRead r x = 0#8 := by
      intro r
      induction r with
      | nil => intros; rfl
      | cons q qs ihq =>
        intro lo' hq x hx
        obtain ⟨kq, vq⟩ := q
        simp only [Memory.wfFrom, Bool.and_eq_true, decide_eq_true_eq] at hq
        have : x ≠ kq := by omega
        simp [cellRead, this, ihq (kq + 1) hq.2 x (by omega)]
    unfold cellWrite
    by_cases hak : a < k
    · have hlow : cellRead rest a = 0#8 := rise rest (k + 1) h4 a (by omega)
      by_cases hb : b = 0#8
      · by_cases hc : c = a
        · subst hc
          simp [hak, hb, cellRead, hlow, Nat.ne_of_lt hak]
        · simp [hak, hb, hc]
      · simp [hak, hb, cellRead]
    · by_cases hek : a = k
      · subst hek
        by_cases hb : b = 0#8
        · by_cases hc : c = a
          · subst hc
            simp [hb, rise rest (c + 1) h4 c (by omega)]
          · simp [hb, hc, cellRead]
        · by_cases hc : c = a <;> simp [hb, hc, cellRead]
      · simp only [hak, hek, if_false, cellRead, ih (k + 1) h4]
        by_cases hc : c = k
        · subst hc
          simp [Ne.symm hek]
        · simp [hc]

theorem wfFrom_mono {n lo lo' : Nat} {m : List Host.Cell} (h : Memory.wfFrom n lo m = true) (hl : lo' ≤ lo) :
    Memory.wfFrom n lo' m = true := by
  cases m with
  | nil => rfl
  | cons cell rest =>
    obtain ⟨k, v⟩ := cell
    simp only [Memory.wfFrom, Bool.and_eq_true, decide_eq_true_eq] at h ⊢
    exact ⟨⟨⟨by omega, h.1.1.2⟩, h.1.2⟩, h.2⟩

/-- A write inside the buffer keeps the canonical form. -/
theorem wfFrom_cellWrite {n lo : Nat} {m : List Host.Cell} (h : Memory.wfFrom n lo m = true) {a : Nat} (b : Byte)
    (hl : lo ≤ a) (ha : a < n) : Memory.wfFrom n lo (cellWrite m a b) = true := by
  induction m generalizing lo with
  | nil =>
    unfold cellWrite
    split
    · rfl
    · simp_all [Memory.wfFrom]
  | cons cell rest ih =>
    obtain ⟨k, v⟩ := cell
    have h' := h
    simp only [Memory.wfFrom, Bool.and_eq_true, decide_eq_true_eq] at h
    obtain ⟨⟨⟨h1, h2⟩, h3⟩, h4⟩ := h
    unfold cellWrite
    split
    · split
      · exact h'
      · simp_all [Memory.wfFrom]
    · split
      · subst a
        split
        · exact wfFrom_mono h4 (by omega)
        · simp_all [Memory.wfFrom]
      · have := ih h4 (by omega)
        simp_all [Memory.wfFrom]

/-- Every memory operation keeps the canonical form. -/
theorem memWrite_keeps_wf {s t : State} {a : Int} {v : Byte} (h : memWrite s a v = .next t)
    (hw : Memory.wf s.params.n s.buf = true) : Memory.wf t.params.n t.buf = true := by
  obtain ⟨ha, rfl⟩ := memWrite_eq_next.mp h
  exact wfFrom_cellWrite hw v (by omega) (by omega)

/-- The reset buffer is canonical. -/
theorem reset_buffer_wf (p : Params) : Memory.wf p.n (State.resetWith p).buf = true := rfl

end Sys2Proof.Machine
end

