-- ==== Sys2Proof/Laws/Invariant.lean ====
section
/-! SUPPORT. What a micro-step has to show to keep the invariant: an engine micro-step leaves the host's part alone, a
host micro-step the engine's. -/

namespace Sys2Proof.Machine

/-- Inside an invocation both lines are driven. -/
theorem Inv.driven {s : State} (h : Inv s) (hr : running s) : s.dataLvl ≠ .undriven ∧ s.markerLvl ≠ .undriven :=
  ⟨h.dataDriven (.inl hr), h.markerDriven (.inl hr)⟩

/-- What an engine micro-step has to show. -/
theorem Inv.engine {s t : State} (h : Inv s) (hne : s.enginePos ≠ .idle)
    (params : t.params = s.params) (buf : t.buf = s.buf) (acc : t.acc = s.acc) (started : t.started = s.started)
    (tickEn : t.tickEn = s.tickEn) (hostPos : t.hostPos = s.hostPos) (dataPin : t.dataPinAct = s.dataPinAct)
    (markerPin : t.markerPinAct = s.markerPinAct)
    (ts : t.ts ≤ s.params.n)
    (readIndex : s.params.concurrentHost = false → t.enginePos.beforeRead = true → 1 ≤ t.ts)
    (budget : t.enginePos.budgetLive = true → t.budget ≤ s.params.tickBudget)
    (charge : t.enginePos.charge ≤ t.budget)
    (mask : t.irqMask = t.enginePos.inSlot)
    (guard : t.guard = true ↔ t.enginePos ≠ .idle)
    (dataHigh : t.dataLvl = .driven .low → t.enginePos.dataMayBeLow = true)
    (dataLvl : t.dataLvl = s.dataLvl ∨ t.dataLvl ≠ .undriven)
    (markerLvl : t.markerLvl = s.markerLvl ∨ t.markerLvl ≠ .undriven) : Inv t := by
  obtain ⟨hd, hm⟩ := h.driven (.inr (.inr hne))
  have hd' : t.dataLvl ≠ .undriven := by
    rcases dataLvl with e | e
    · rwa [e]
    · exact e
  have hm' : t.markerLvl ≠ .undriven := by
    rcases markerLvl with e | e
    · rwa [e]
    · exact e
  exact {
    params := by rw [params]; exact h.params
    buffer := by rw [params, buf]; exact h.buffer
    acc := by rw [params, acc]; exact h.acc
    ts := by rw [params]; exact ts
    readIndex := by rw [params]; exact readIndex
    budget := by rw [params]; exact budget
    charge := charge
    mask := mask
    guard := guard
    lifecycle := by rw [hostPos, started, tickEn]; exact h.lifecycle
    operands := by rw [hostPos, params]; exact h.operands
    dataHigh := dataHigh
    dataDriven := fun _ => hd'
    markerDriven := fun _ => hm'
    pinsDiffer := fun _ => by rw [dataPin, markerPin]; exact h.pinsDiffer (.inl hd) }

/-- What a host micro-step has to show. -/
theorem Inv.host {s t : State} (h : Inv s)
    (params : t.params = s.params) (budget : t.budget = s.budget) (irqMask : t.irqMask = s.irqMask)
    (guard : t.guard = s.guard) (enginePos : t.enginePos = s.enginePos)
    (buffer : Memory.wf s.params.n t.buf = true)
    (acc : t.acc ≤ s.params.n)
    (ts : t.ts ≤ s.params.n)
    (readIndex : t.ts = s.ts ∨ s.params.concurrentHost = true ∨ s.enginePos = .idle)
    (lifecycle : t.hostPos.lifecycleOk t.started t.tickEn = true)
    (operands : t.hostPos.operandsOk s.params.n = true)
    (dataHigh : t.dataLvl = .driven .low → s.dataLvl = .driven .low)
    (dataDriven : running t ∨ t.hostPos.dataDriven = true → t.dataLvl ≠ .undriven)
    (markerDriven : running t ∨ t.hostPos.markerDriven = true → t.markerLvl ≠ .undriven)
    (pinsDiffer : t.dataLvl ≠ .undriven ∨ t.hostPos = .st2 → t.dataPinAct ≠ t.markerPinAct) : Inv t :=
  { params := by rw [params]; exact h.params
    buffer := by rw [params]; exact buffer
    acc := by rw [params]; exact acc
    ts := by rw [params]; exact ts
    readIndex := by
      rw [params, enginePos]
      intro hc hb
      rcases readIndex with e | e | e
      · rw [e]
        exact h.readIndex hc hb
      · rw [hc] at e
        cases e
      · rw [e] at hb
        cases hb
    budget := by rw [params, enginePos, budget]; exact h.budget
    charge := by rw [enginePos, budget]; exact h.charge
    mask := by rw [enginePos, irqMask]; exact h.mask
    guard := by rw [enginePos, guard]; exact h.guard
    lifecycle := lifecycle
    operands := by rw [params]; exact operands
    dataHigh := by
      rw [enginePos]
      exact fun e => h.dataHigh (dataHigh e)
    dataDriven := dataDriven
    markerDriven := markerDriven
    pinsDiffer := pinsDiffer }

end Sys2Proof.Machine
end

