-- ==== Sys2Proof/Laws/Lifecycle.lean ====
section
/-! SUPPORT. What Start, Stop and the host commands do, each said once as the state it leaves. -/

namespace Sys2Proof.Machine

/-- Start refuses one pin for both lines (U6). -/
theorem startProcedure_refuses {s : State} (h : s.dataPinCfg = s.markerPinCfg) :
    startProcedure s = .refused .onePinForBothLines := by
  simp [startProcedure, startLatch, h]

/-- Start with two different pins (40_config_commands.md R124). -/
theorem startProcedure_starts {s : State} (h : s.dataPinCfg ≠ s.markerPinCfg) :
    startProcedure s = .next { s with
      dataPinAct := s.dataPinCfg, markerPinAct := s.markerPinCfg, dataLvl := .driven .high, markerLvl := .driven .high,
      ts := 0, started := true, tickEn := true,
      trace := s.trace ++ [.out s.dataPinCfg, .edge s.dataPinCfg .high, .out s.markerPinCfg,
        .edge s.markerPinCfg .high] } := by
  simp only [startProcedure, startLatch, h, if_false, andThen_next, Host.Outcome.next.injEq]
  apply State.ext <;> simp [startData, startMarker]

/-- Everything Start can do. -/
theorem startProcedure_eq (s : State) :
    startProcedure s = if s.dataPinCfg = s.markerPinCfg then .refused .onePinForBothLines else .next { s with
      dataPinAct := s.dataPinCfg, markerPinAct := s.markerPinCfg, dataLvl := .driven .high, markerLvl := .driven .high,
      ts := 0, started := true, tickEn := true,
      trace := s.trace ++ [.out s.dataPinCfg, .edge s.dataPinCfg .high, .out s.markerPinCfg,
        .edge s.markerPinCfg .high] } := by
  split
  · exact startProcedure_refuses ‹_›
  · exact startProcedure_starts ‹_›

/-- Stop (R125). -/
theorem stopProcedure_eq (s : State) : stopProcedure s = { s with tickEn := false, started := false, acc := 0 } := rfl

/-- Restart is Start on the stopped block (R126). -/
theorem execRestart_eq (s : State) :
    execRestart s = startProcedure { s with tickEn := false, started := false, acc := 0 } := rfl

theorem startIfStopped_started {s : State} (h : s.started = true) : startIfStopped s = .next s := by
  simp [startIfStopped, h]

theorem startIfStopped_stopped {s : State} (h : s.started = false) : startIfStopped s = startProcedure s := by
  simp [startIfStopped, h]

theorem channelIgnored_eq_true {c : Int} {s : State} : channelIgnored c s = true ↔ c < 1 ∨ s.params.n < c := by
  simp [channelIgnored]

/-- WRITE of a channel outside 1..N (R120). -/
theorem execWrite_outside {c v : Int} {s : State} (h : c < 1 ∨ s.params.n < c) : execWrite c v s = .next s := by
  simp [execWrite, channelIgnored_eq_true.mpr h]

/-- WRITE of a channel in 1..N up to its W3 (R120). -/
theorem execWrite_inside {c v : Int} {s : State} (h1 : 1 ≤ c) (h2 : c ≤ s.params.n) :
    execWrite c v s = startIfStopped { s with
      buf := cellWrite s.buf (c - 1).toNat (clampValue v), acc := max s.acc c.toNat } := by
  have hc : channelIgnored c s = false := by
    rw [← Bool.not_eq_true, channelIgnored_eq_true]
    omega
  simp only [execWrite, hc, Bool.false_eq_true, if_false, writeStore]
  rw [memWrite_inside _ (by omega), andThen_next]
  rfl

/-- SETCOUNT of a count at or below 0 is Stop (R121). -/
theorem execSetcount_stops {n : Int} {s : State} (h : n ≤ 0) : execSetcount n s = .next (stopProcedure s) := by
  simp [execSetcount, h]

/-- SETCOUNT of a positive count up to its C2 (R121). -/
theorem execSetcount_counts {n : Int} {s : State} (h : 0 < n) :
    execSetcount n s = startIfStopped { s with acc := min n.toNat s.params.n } := by
  simp only [execSetcount, Int.not_le.mpr h, if_false]
  rfl

theorem pinsChange_eq_true {d m : Pin} {s : State} :
    pinsChange d m s = true ↔ d ≠ s.dataPinCfg ∨ m ≠ s.markerPinCfg := by
  simp [pinsChange]

/-- CONFIGPINS that does not restart the block (R122). -/
theorem execConfigpins_stores {d m : Pin} {s : State}
    (h : s.params.pinChangeRestart = false ∨ s.started = false ∨ pinsChange d m s = false) :
    execConfigpins d m s = .next { s with dataPinCfg := d, markerPinCfg := m } := by
  have hr : pinChangeRestarts (pinsChange d m s) ((s.setDataPinCfg d).setMarkerPinCfg m) = false := by
    simp only [pinChangeRestarts, State.setMarkerPinCfg_params, State.setDataPinCfg_params,
      State.setMarkerPinCfg_started, State.setDataPinCfg_started]
    rcases h with h | h | h <;> simp [h]
  simp only [execConfigpins, hr, Bool.false_eq_true, if_false]
  rfl

/-- CONFIGPINS that restarts the block (R122 with PIN_CHANGE_RESTART = true). -/
theorem execConfigpins_restarts {d m : Pin} {s : State} (hp : s.params.pinChangeRestart = true)
    (hs : s.started = true) (hc : pinsChange d m s = true) :
    execConfigpins d m s = execRestart { s with dataPinCfg := d, markerPinCfg := m } := by
  have hr : pinChangeRestarts (pinsChange d m s) ((s.setDataPinCfg d).setMarkerPinCfg m) = true := by
    simp [pinChangeRestarts, hp, hs, hc]
  simp only [execConfigpins, hr, if_true]
  rfl

end Sys2Proof.Machine
end

