-- ==== Sys2Proof/Laws/Micro.lean ====
section
/-! SUPPORT. The micro-steps of one operation, run in a row, are the operation: SEND_BYTE, the two units, ADVANCE, the
handler exit, and Start. -/

namespace Sys2Proof.Machine

theorem microRun_succ (micro : State → Result) (k : Nat) (s : State) :
    microRun micro (k + 1) s = andThen (micro s) (microRun micro k) := rfl

theorem engineRun_next (k : Nat) {s t : State} (h : engineMicro s = .next t) :
    microRun engineMicro (k + 1) s = microRun engineMicro k t := by
  rw [microRun_succ, h, andThen_next]

theorem engineRun_idle (k : Nat) {s : State} (h : s.enginePos = .idle) : microRun engineMicro k s = .next s := by
  induction k with
  | zero => rfl
  | succ k ih => simp [microRun, engineMicro, h, ih]

theorem hostRun_idle (k : Nat) {s : State} (h : s.hostPos = .idle) : microRun hostMicro k s = .next s := by
  induction k with
  | zero => rfl
  | succ k ih => simp [microRun, hostMicro, h, ih]

/-- The eleven micro-steps B1 to B11 (41_byte_transmitter.md R140). -/
theorem engineRun_send (k : Nat) {s : State} {pin : Pin} {c : Caller} (h : s.enginePos = .send .b1 pin c) :
    microRun engineMicro (k + 11) s = microRun engineMicro k
      ((sendRelease (sendStopBits pin (sendDataBits pin (sendStartBit pin s)))).setEnginePos
        (afterSend .b11 pin c)) := by
  rw [show k + 11 = (k + 10) + 1 from rfl,
    engineRun_next _ (t := (sendStartBit pin s).setEnginePos (.send (.bit 0) pin c))
      (by simp [engineMicro, h, afterSend, sendMicro])]
  have bit : ∀ (m : Nat) (u : State) (i : Fin 8),
      microRun engineMicro (m + 1) (u.setEnginePos (.send (.bit i) pin c)) =
        microRun engineMicro m ((sendDataBit pin i.val u).setEnginePos (afterSend (.bit i) pin c)) := by
    intro m u i
    exact engineRun_next _ (by simp [engineMicro, sendMicro]; rfl)
  rw [show k + 10 = (k + 9) + 1 from rfl, bit]
  simp only [afterSend, Fin.val_zero, Nat.zero_add, Nat.reduceLT, ↓reduceDIte]
  iterate 7
    rw [microRun_succ, ← microRun_succ, bit]
    simp only [afterSend, Nat.reduceAdd, Nat.reduceLT, ↓reduceDIte]
  rw [show k + 2 = (k + 1) + 1 from rfl,
    engineRun_next _
      (t := (sendStopBits pin (sendDataBits pin (sendStartBit pin s))).setEnginePos (.send .b11 pin c))
      (by simp [engineMicro, afterSend, sendMicro]; rfl)]
  rw [engineRun_next _
    (t := (sendRelease (sendStopBits pin (sendDataBits pin (sendStartBit pin s)))).setEnginePos (afterSend .b11 pin c))
    (by simp [engineMicro, sendMicro]; cases c <;> rfl)]
  rfl

/-- SEND_BYTE from its call at F3 or S3: the twelve micro-steps B0 to B11. -/
theorem engineRun_call (k : Nat) {s : State} {v : Byte} {c : Caller}
    (h : engineMicro s = .next ((sendLatch v s).setEnginePos (.send .b1 s.dataPinAct c))) :
    microRun engineMicro (k + 12) s =
      microRun engineMicro k ((transmit v s.dataPinAct s).setEnginePos (afterSend .b11 s.dataPinAct c)) := by
  rw [show k + 12 = (k + 11) + 1 from rfl, engineRun_next _ h, engineRun_send (pin := s.dataPinAct) (c := c) _ (by simp)]
  simp only [transmit, sendRelease, sendStopBits, sendDataBits, sendDataBit, sendStartBit, driveData_setEnginePos,
    requestMask_setEnginePos, setEnginePos_setEnginePos, State.setEnginePos_txb]

/-- FRAME_START from L0: the selection and its fifteen micro-steps. -/
theorem engineRun_frame (k : Nat) {s : State} (h : s.enginePos = .l0) (ht : s.ts = 0) (hb : frameStartCost ≤ s.budget) :
    microRun engineMicro (k + 16) s = andThen (execFrameStart s) (microRun engineMicro k) := by
  have hb' : ¬ s.budget < frameStartCost := Nat.not_lt.mpr hb
  rw [show k + 16 = (k + 15) + 1 from rfl,
    engineRun_next _ (t := s.setEnginePos .f1) (by simp [engineMicro, h, selectUnit, ht, hb'])]
  rw [show k + 15 = (k + 14) + 1 from rfl,
    engineRun_next _ (t := (frameBreak s).setEnginePos .f2) (by simp [engineMicro]; rfl)]
  rw [show k + 14 = (k + 13) + 1 from rfl,
    engineRun_next _ (t := (frameMark (frameBreak s)).setEnginePos .f3) (by simp [engineMicro]; rfl)]
  rw [show k + 13 = (k + 1) + 12 from rfl,
    engineRun_call (v := startCode) (c := .frameStart) (k + 1) (by simp [engineMicro])]
  rw [engineRun_next _
    (t := frameCharge (transmit startCode (frameMark (frameBreak s)).dataPinAct (frameMark (frameBreak s)))) (by
      simp only [engineMicro, afterSend, State.setEnginePos_enginePos, transmit_setEnginePos, setEnginePos_setEnginePos,
        frameCharge, setBudget_setEnginePos, State.setEnginePos_budget, State.setEnginePos_dataPinAct])]
  simp [execFrameStart, hb']

/-- CHANNEL_SLOT from L0: the selection and its fifteen micro-steps. -/
theorem engineRun_slot (k : Nat) {s : State} (h : s.enginePos = .l0) (ht : s.ts ≠ 0) (hb : slotCost ≤ s.budget) :
    microRun engineMicro (k + 16) s = andThen (execChannelSlot s) (microRun engineMicro k) := by
  have hb' : ¬ s.budget < slotCost := Nat.not_lt.mpr hb
  rw [show k + 16 = (k + 15) + 1 from rfl,
    engineRun_next _ (t := s.setEnginePos .s1) (by simp [engineMicro, h, selectUnit, ht, hb'])]
  rw [show k + 15 = (k + 14) + 1 from rfl,
    engineRun_next _ (t := (driveMarker .low s).setEnginePos .s2) (by simp [engineMicro]; rfl)]
  unfold execChannelSlot
  simp only [hb', if_false]
  have read : slotRead ((driveMarker .low s).setEnginePos .s2) =
      (countStrayRead (driveMarker .low s)).setEnginePos (.s3 (slotByte (driveMarker .low s))) := by
    simp only [slotRead, countStrayRead_setEnginePos, setEnginePos_setEnginePos]
    rfl
  rw [show k + 14 = (k + 13) + 1 from rfl,
    engineRun_next _ (t := (countStrayRead (driveMarker .low s)).setEnginePos (.s3 (slotByte (driveMarker .low s))))
      (by simp only [engineMicro, State.setEnginePos_enginePos, read])]
  rw [show k + 13 = (k + 1) + 12 from rfl,
    engineRun_call (v := slotByte (driveMarker .low s)) (c := .channelSlot) (k + 1) (by simp [engineMicro])]
  rw [engineRun_next _
    (t := slotCharge (transmit (slotByte (driveMarker .low s)) (driveMarker .low s).dataPinAct
      (countStrayRead (driveMarker .low s)))) (by
      simp only [engineMicro, afterSend, State.setEnginePos_enginePos, transmit_setEnginePos,
        setEnginePos_setEnginePos, slotCharge, setBudget_setEnginePos, State.setEnginePos_budget,
        State.setEnginePos_dataPinAct, countStrayRead_dataPinAct])]
  rfl

/-- ADVANCE: its two micro-steps. -/
theorem engineRun_advance (k : Nat) {s : State} (h : s.enginePos = .a0) :
    microRun engineMicro (k + 2) s = andThen (execAdvance s) (microRun engineMicro k) := by
  rw [show k + 2 = (k + 1) + 1 from rfl,
    engineRun_next _ (t := s.setEnginePos (.a1 (s.ts + 1))) (by simp [engineMicro, h]),
    engineRun_next _ (t := advanceTo (s.ts + 1) s) (by
      simp only [engineMicro, State.setEnginePos_enginePos, advanceTo_setEnginePos])]
  rfl

/-- The handler exit: one micro-step, after which the engine is idle. -/
theorem engineRun_exit (k : Nat) {s : State} (h : s.enginePos = .x0) :
    microRun engineMicro (k + 1) s = .next (exitHandler s) := by
  rw [engineRun_next _ (t := exitHandler s) (by simp [engineMicro, h]), engineRun_idle _ (by simp)]

/-- Start: its six micro-steps, after which the host is idle. -/
theorem hostRun_start (k : Nat) {s : State} (h : s.hostPos = .st1) :
    microRun hostMicro (k + 6) s = andThen (startProcedure s) fun t => .next (t.setHostPos .idle) := by
  rw [show k + 6 = k + 5 + 1 from rfl, microRun_succ, startProcedure_eq]
  simp only [hostMicro, h]
  unfold startLatch
  split
  · simp
  · simp only [andThen_next]
    rw [show k + 5 = k + 4 + 1 from rfl, microRun_succ]
    simp only [hostMicro, State.setHostPos_hostPos, andThen_next]
    rw [show k + 4 = k + 3 + 1 from rfl, microRun_succ]
    simp only [hostMicro, State.setHostPos_hostPos, andThen_next]
    rw [show k + 3 = k + 2 + 1 from rfl, microRun_succ]
    simp only [hostMicro, State.setHostPos_hostPos, andThen_next]
    rw [show k + 2 = k + 1 + 1 from rfl, microRun_succ]
    simp only [hostMicro, State.setHostPos_hostPos, andThen_next]
    rw [microRun_succ]
    simp only [hostMicro, State.setHostPos_hostPos, andThen_next]
    rw [hostRun_idle _ (by simp)]
    simp only [Host.Outcome.next.injEq]
    apply State.ext <;> simp [startData, startMarker]

end Sys2Proof.Machine
end

