-- ==== Sys2Proof/Laws/PerInstr.lean ====
section
/-! SUPPORT. The family of statements made per instruction: an instruction that has a code is read back from it. -/

namespace Sys2Proof.Laws.RoundTrip

/-- Where a well-formed instruction has a code, decoding that code gives the instruction back (30_encoding.md R91 to
R104). -/
def Statement (i : Instr) : Prop := i.wf = true → ∀ c, encode i = some c → decode c = .ok i

theorem write (channel value : Int) : Statement (.write channel value) := by
  intro h c e
  simp only [Instr.wf, Bool.and_eq_true] at h
  cases e
  simp [decode, decodeCommand, sext16_ofInt h.1, sext16_ofInt h.2]

theorem setcount (n : Int) : Statement (.setcount n) := by
  intro h c e
  cases e
  simp [decode, decodeCommand, sext16_ofInt (v := n) h]

theorem configpins (dataPin markerPin : Pin) : Statement (.configpins dataPin markerPin) := by
  intro _ c e
  cases e
  simp [decode, decodeCommand]

theorem stop : Statement .stop := by
  intro _ c e
  cases e
  simp [decode, decodeCommand]

theorem tick : Statement .tick := by
  intro _ c e
  cases e
  rfl

theorem frameStart : Statement .frameStart := by
  intro _ c e
  cases e
  rfl

theorem channelSlot : Statement .channelSlot := by
  intro _ c e
  cases e

theorem sendByte (value : Byte) (pin : Pin) : Statement (.sendByte value pin) := by
  intro _ c e
  cases e
  exact decodeSlot_slotWord pin value

theorem advance : Statement .advance := by
  intro _ c e
  cases e

theorem startProc : Statement .startProc := by
  intro _ c e
  cases e

theorem stopProc : Statement .stopProc := by
  intro _ c e
  cases e

theorem restart : Statement .restart := by
  intro _ c e
  cases e

end Sys2Proof.Laws.RoundTrip
end

