-- ==== Sys2Proof/Laws/Step.lean ====
section
/-! SUPPORT. What a step can be, which instructions a command word stands for, and that a host command does not look at
the host's position. -/

namespace Sys2Proof.Machine

/-- Everything a step can be: a micro-step of what is in progress, or the head of the schedule where it is admissible. -/
theorem step_cases (s : State) :
    (s.enginePos = .idle ∧ step s = hostMicro s) ∨ (s.enginePos ≠ .idle ∧ step s = engineMicro s) ∨
      ∃ e rest, s.schedule = e :: rest ∧ admissible e s = true ∧ step s = perform e (s.setSchedule rest) := by
  have go : (s.enginePos = .idle ∧ goOn s = hostMicro s) ∨ (s.enginePos ≠ .idle ∧ goOn s = engineMicro s) := by
    unfold goOn
    split
    · exact .inl ⟨‹_›, rfl⟩
    · exact .inr ⟨‹_›, rfl⟩
  unfold step scheduled
  split
  · rcases go with h | h
    · exact .inl h
    · exact .inr (.inl h)
  · rename_i e rest hs
    by_cases ha : admissible e s = true
    · rw [if_pos ha]
      exact .inr (.inr ⟨e, rest, hs, ha, rfl⟩)
    · rw [if_neg ha]
      rcases go with h | h
      · exact .inl h
      · exact .inr (.inl h)

/-- A command word decodes to one of the four host commands (30_encoding.md R92). -/
theorem decode_formatH_cases {w : CmdWord} {i : Instr} (h : decode (.formatH w) = .ok i) :
    (∃ c v, i = .write c v) ∨ (∃ n, i = .setcount n) ∨ (∃ d m, i = .configpins d m) ∨ i = .stop := by
  simp only [decode, decodeCommand] at h
  split_ifs at h <;> cases h <;> simp

/-- A HOST micro-step leaves the engine's position and mask alone (10_state.md R40). -/
theorem hostMicro_engine {s t : State} (e : hostMicro s = .next t) :
    t.enginePos = s.enginePos ∧ t.irqMask = s.irqMask ∧ t.params = s.params := by
  unfold hostMicro at e
  split at e
  case h_3 =>
    obtain ⟨u, e1, e2⟩ := andThen_eq_next.mp e
    obtain ⟨_, rfl⟩ := memWrite_eq_next.mp e1
    cases e2
    simp
  case h_13 =>
    obtain ⟨u, e1, e2⟩ := andThen_eq_next.mp e
    unfold startLatch at e1
    split at e1 <;> cases e1
    cases e2
    simp
  all_goals
    cases e
    simp [writeRaise, setCountTo, startData, startMarker]

theorem startProcedure_setHostPos (s : State) (p : HostPos) :
    startProcedure (s.setHostPos p) = andThen (startProcedure s) fun t => .next (t.setHostPos p) := by
  by_cases h : s.dataPinCfg = s.markerPinCfg
  · rw [startProcedure_refuses h, startProcedure_refuses (s := s.setHostPos p) h]
    rfl
  · rw [startProcedure_starts h, startProcedure_starts (s := s.setHostPos p) h]
    rfl

theorem startIfStopped_setHostPos (s : State) (p : HostPos) :
    startIfStopped (s.setHostPos p) = andThen (startIfStopped s) fun t => .next (t.setHostPos p) := by
  cases h : s.started
  · rw [startIfStopped_stopped h, startIfStopped_stopped (s := s.setHostPos p) h]
    exact startProcedure_setHostPos s p
  · rw [startIfStopped_started h, startIfStopped_started (s := s.setHostPos p) h]
    rfl

/-- What a property needs so that many micro-steps in a row keep it. -/
theorem microRun_keeps {micro : State → Result} {P : State → Prop}
    (keep : ∀ s t, P s → micro s = .next t → P t) (k : Nat) :
    ∀ s t, P s → microRun micro k s = .next t → P t := by
  induction k with
  | zero =>
    intro s t h e
    cases e
    exact h
  | succ k ih =>
    intro s t h e
    obtain ⟨u, e1, e2⟩ := andThen_eq_next.mp e
    exact ih u t (keep s u h e1) e2

end Sys2Proof.Machine
end

