-- ==== Sys2Proof/Tests/Slice0.lean ====
section
/-! SUPPORT. Tests: the checks of WellFormed, the decoding of words written out from 30_encoding.md, one or two steps per
instruction with results from 95_test_vectors.md, and a witness for the hypotheses of every statement in
Certificates/Slice0/Obligations.lean. -/

namespace Sys2Proof.Tests

open Sys2Proof.Machine

/-! ### WellFormed refuses -/

theorem test_wf_write_channel_above : Instr.wf (.write 32768 0) = false := by decide
theorem test_wf_write_value_below : Instr.wf (.write 1 (-32769)) = false := by decide
theorem test_wf_setcount_below : Instr.wf (.setcount (-32769)) = false := by decide
theorem test_wf_bounds : Instr.wf (.write (-32768) 32767) = true ∧ Instr.wf (.setcount 32767) = true := by decide

/-! ### Words of the spec decode to what they stand for -/

/-- V3: op 0001, channel 5, value 300. -/
theorem test_decode_write :
    decode (.formatH 0b000100000000000001010000000100101100#36) = .ok (.write 5 300) := by decide

/-- V12: a negative channel, sign extended. -/
theorem test_decode_write_negative : decode (.formatH 0x1FFFF0005#36) = .ok (.write (-1) 5) := by decide

/-- V15 and V53: field A is n, field B is not read. -/
theorem test_decode_setcount :
    decode (.formatH 0b001011111111111111110000000000000000#36) = .ok (.setcount (-1)) ∧
    decode (.formatH 0x2000300FF#36) = .ok (.setcount 3) := by decide

/-- V41 and V47: the low bytes are the pins. -/
theorem test_decode_configpins :
    decode (.formatH 0b001100000000000001110000000000001000#36) = .ok (.configpins 7#8 8#8) ∧
    decode (.formatH 0x3AB07CD04#36) = .ok (.configpins 7#8 4#8) := by decide

/-- V48 and V54. -/
theorem test_decode_stop :
    decode (.formatH 0b010000000000000000000000000000000000#36) = .ok .stop ∧
    decode (.formatH 0x4DEADBEEF#36) = .ok .stop := by decide

/-- V50 to V52: reserved words are rejected by name. -/
theorem test_decode_reserved :
    decode (.formatH 0x000000000#36) = .error (.reservedOp 0x0#4) ∧
    decode (.formatH 0x500010001#36) = .error (.reservedOp 0x5#4) ∧
    decode (.formatH 0xFFFFFFFFF#36) = .error (.reservedOp 0xF#4) := by decide

/-- R98: the pulse. -/
theorem test_decode_tick :
    decode (.formatE 1#1) = .ok .tick ∧ decode (.formatE 0#1) = .error .noTickPulse := by decide

/-- V26 and V29, first cell leftmost. -/
theorem test_decode_slot :
    decode (.formatS 3#8 0b00101000011#11) = .ok (.sendByte 0x0A#8 3#8) ∧
    decode (.formatS 3#8 0b00110100111#11) = .ok (.sendByte 0x96#8 3#8) := by decide

/-- R97: slots the block never produces. -/
theorem test_decode_slot_rejects :
    decode (.formatS 3#8 0b10101000011#11) = .error .startCellHigh ∧
    decode (.formatS 3#8 0b00101000001#11) = .error .stopCellLow := by decide

/-- R102: 11 low, 13 high, then the 0x00 slot. -/
theorem test_decode_frame_start :
    decode (.formatF 0b00000000000111111111111100000000011#35) = .ok .frameStart := by decide

/-- R100: the worked slot patterns are the encoder's. -/
theorem test_encode_slots :
    [0x00#8, 0xFF#8, 0x01#8, 0x80#8, 0x55#8, 0xAA#8, 0x07#8].map slotWord =
      [0b00000000011#11, 0b01111111111#11, 0b01000000011#11, 0b00000000111#11, 0b01010101011#11, 0b00101010111#11,
        0b01110000011#11] := by decide

/-! ### States -/

/-- The next state of a result. -/
def after (r : Result) : Option State :=
  match r with
  | .next t => some t
  | .fault _ => none
  | .refused _ => none

/-- A block running on pins 3 and 4 with `TICK_BUDGET = T`. -/
def block (T acc ts : Nat) (buf : List Host.Cell) : State :=
  { State.reset with
    params := { defaultParams with tickBudget := T }, buf := buf, acc := acc, ts := ts, started := true, tickEn := true,
    dataPinAct := 3#8, markerPinAct := 4#8, dataLvl := .driven .high, markerLvl := .driven .high }

/-- A block at a position inside an invocation. -/
def inside (pos : EnginePos) (acc ts budget : Nat) : State :=
  { block 64 acc ts [] with guard := true, budget := budget, enginePos := pos }

/-- A block inside SEND_BYTE, at its first data bit. -/
def sending : State :=
  { inside (.send (.bit 0) 3#8 .channelSlot) 1 1 29 with
    irqMask := true, dataLvl := .driven .low, markerLvl := .driven .low,
    trace := [.edge 4#8 .low, .mask true, .seg 3#8 .low 1 .exact] }

/-- A block stopped as after reset, with one pin configured for both lines. -/
def onePin : State := { State.reset with markerPinCfg := 3#8 }

/-- A running block with PIN_CHANGE_RESTART = true. -/
def restarting : State :=
  { block 64 2 0 [] with params := { defaultParams with pinChangeRestart := true } }

/-- A concurrent host's Start has cleared TS between L0 and S2 (U16). -/
def raced : State :=
  { inside .s2 1 0 11 with params := { defaultParams with concurrentHost := true }, markerLvl := .driven .low }

/-- A state with one entry in its schedule. -/
def next (e : Event) (s : State) : State := { s with schedule := [e] }

/-! ### One or two steps per instruction -/

/-- V3. -/
theorem test_write_clamps_and_starts :
    (after (exec (.write 5 300) State.reset)).map (fun t => (t.bufAt 4, t.acc, t.started, t.tickEn, t.trace)) =
      some (255#8, 5, true, true, [.out 3#8, .edge 3#8 .high, .out 4#8, .edge 4#8 .high]) := by decide

/-- V11 and V4. -/
theorem test_write_range_and_floor :
    (after (exec (.write 513 1) State.reset)).map (fun t => (t.acc, t.started)) = some (0, false) ∧
    (after (exec (.write 1 (-1)) State.reset)).map (fun t => (t.bufAt 0, t.acc)) = some (0#8, 1) := by decide

/-- V17 and V19. -/
theorem test_setcount_clamps_and_lowers :
    (after (exec (.setcount 513) State.reset)).map (fun t => (t.acc, t.started)) = some (512, true) ∧
    (after (exec (.setcount 3) (block 64 10 0 []))).map (fun t => (t.acc, t.trace)) = some (3, []) := by decide

/-- V15. -/
theorem test_setcount_stops :
    (after (exec (.setcount (-1)) (block 64 128 0 []))).map (fun t => (t.acc, t.started, t.tickEn)) =
      some (0, false, false) := by decide

/-- V43. -/
theorem test_configpins_waits :
    (after (exec (.configpins 7#8 4#8) (block 64 2 0 []))).map (fun t => (t.dataPinCfg, t.dataPinAct, t.acc)) =
      some (7#8, 3#8, 2) := by decide

/-- V44. -/
theorem test_configpins_restarts :
    (after (exec (.configpins 7#8 4#8) restarting)).map (fun t => (t.dataPinAct, t.acc, t.started, t.trace)) =
      some (7#8, 0, true, [.out 7#8, .edge 7#8 .high, .out 4#8, .edge 4#8 .high]) := by decide

/-- V48. -/
theorem test_stop_keeps_ts_and_marker :
    (after (exec .stop { block 64 128 40 [] with markerLvl := .driven .low })).map
        (fun t => (t.acc, t.started, t.tickEn, t.ts, t.markerLvl)) =
      some (0, false, false, 40, .driven .low) := by decide

/-- V34. -/
theorem test_tick_whole_frame :
    (after (exec .tick (block 46 1 0 [(0, 9#8)]))).map (fun t => (t.trace, t.ts, t.budget, t.guard)) =
      some ([.seg 3#8 .low 11 .atleast, .seg 3#8 .high 13 .atleast] ++ slotItems 3#8 0#8 ++ [.edge 4#8 .low]
        ++ slotItems 3#8 9#8 ++ [.edge 4#8 .high], 0, 0, false) := by decide

/-- V36. -/
theorem test_tick_two_slots :
    (after (exec .tick (block 22 5 2 [(1, 2#8), (2, 3#8), (3, 4#8), (4, 5#8)]))).map
        (fun t => (t.trace, t.ts, t.budget)) =
      some ([.edge 4#8 .low] ++ slotItems 3#8 2#8 ++ [.edge 4#8 .low] ++ slotItems 3#8 3#8, 4, 0) := by decide

/-- The rule's own example (R155): budget 64 to 29. -/
theorem test_frame_start :
    (after (exec .frameStart (inside .l0 1 0 64))).map (fun t => (t.budget, t.trace.length, t.markerLvl)) =
      some (29, 14, .driven .high) := by decide

/-- The rule's own example (R156): channel 5, byte 255, budget 29 to 18. -/
theorem test_channel_slot :
    (after (exec .channelSlot { inside .l0 5 5 29 with buf := [(4, 255#8)] })).map
        (fun t => (t.trace, t.budget, t.markerLvl, t.ts)) =
      some (.edge 4#8 .low :: slotItems 3#8 0xFF#8, 18, .driven .low, 5) := by decide

/-- U16 and R180: the race has no failure outcome, and the unit is charged whatever byte it sends (R156). -/
theorem test_channel_slot_without_channel :
    (after (exec .channelSlot (inside .l0 1 0 11))).map (fun t => (t.budget, t.markerLvl, t.ts, t.strayReads)) =
      some (0, .driven .low, 0, 1) := by decide

/-- The rule's own example (R140): 0x0A on pin 3. -/
theorem test_send_byte :
    (after (exec (.sendByte 0x0A#8 3#8) State.reset)).map (fun t => t.trace) =
      some [.mask true, .seg 3#8 .low 1 .exact, .seg 3#8 .low 1 .exact, .seg 3#8 .high 1 .exact,
        .seg 3#8 .low 1 .exact, .seg 3#8 .high 1 .exact, .seg 3#8 .low 1 .exact, .seg 3#8 .low 1 .exact,
        .seg 3#8 .low 1 .exact, .seg 3#8 .low 1 .exact, .seg 3#8 .high 2 .exact, .mask false] := by decide

/-- The rule's own example (R157), and V55's local 513. -/
theorem test_advance :
    (after (exec .advance (inside .a0 128 128 9))).map (fun t => (t.ts, t.trace, t.enginePos)) =
      some (0, [.edge 4#8 .high], .x0) ∧
    (after (exec .advance (inside .a0 512 511 9))).map (fun t => (t.ts, t.enginePos)) = some (512, .l0) := by decide

/-- The rule's own example (R124). -/
theorem test_start :
    (after (exec .startProc State.reset)).map (fun t => (t.trace, t.dataPinAct, t.dataLvl)) =
      some ([.out 3#8, .edge 3#8 .high, .out 4#8, .edge 4#8 .high], 3#8, .driven .high) := by decide

/-- U6: one pin for both lines is refused. -/
theorem test_start_refuses_one_pin : exec .startProc onePin = .refused .onePinForBothLines := by rfl

/-- V14. -/
theorem test_stop_procedure :
    (after (exec .stopProc (block 64 128 0 [(0, 1#8)]))).map (fun t => (t.acc, t.tickEn, t.buf, t.trace)) =
      some (0, false, [(0, 1#8)], []) := by decide

/-- R126: the count is lost. -/
theorem test_restart :
    (after (exec .restart (block 64 2 1 []))).map (fun t => (t.acc, t.ts, t.started)) = some (0, 0, true) := by decide

/-! ### The rest of the machine -/

/-- V40: a tick inside an invocation is dropped. -/
theorem test_tick_dropped : after (exec .tick (inside .s2 1 1 11)) = some (inside .s2 1 1 11) := by decide

/-- V39: a tick of a stopped block is dropped. -/
theorem test_tick_stopped : after (exec .tick State.reset) = some State.reset := by decide

/-- V51: a reserved word changes nothing but the schedule. -/
theorem test_step_reserved : after (step (next (.command 0x500010001#36) State.reset)) = some State.reset := by decide

/-- V60: the byte of a slot is the one read at S2. -/
theorem test_byte_is_read_once :
    (after (engineMicro { inside (.s3 5#8) 3 3 11 with buf := [(2, 8#8)] })).map (fun t => t.txb) = some 5#8 := by decide

/-- V58h, V58i and V58d: invocations per frame. -/
theorem test_frame_invocations :
    frameInvocations 64 128 = 27 ∧ frameInvocations 64 512 = 103 ∧ frameInvocations 35 4 = 3 := by decide

/-- R240: 140 and 44 microseconds, 22668 for a frame of 512 channels. -/
theorem test_nominal_times :
    nominalMicros (frameStartItems defaultParams 3#8) = 140 ∧ nominalMicros (slotItems 3#8 0x96#8) = 44 ∧
    140 + 44 * 512 = 22668 := by decide

/-- R241: 64 cycles per bit period at 16 MHz, 32 at 8 MHz. -/
theorem test_cycles : cyclesPerBitPeriod 16000000 = 64 ∧ cyclesPerBitPeriod 8000000 = 32 := by decide

/-- R16: exactly the duration, or the duration and more. -/
theorem test_holds :
    Hold.exact.allows 1 (3 / 2) = false ∧ Hold.atleast.allows 11 (23 / 2) = true ∧
    Hold.atleast.allows 11 (21 / 2) = false := by norm_num [Hold.allows]

/-- R106: lines of a program. -/
theorem test_assembler_lines :
    parseLine ['W', 'R', 'I', 'T', 'E', ' ', '1', ',', ' ', '-', '1', '2', ' ', ';', 'x'] = some [.write 1 (-12)] ∧
    parseLine ['C', 'O', 'N', 'F', 'I', 'G', 'P', 'I', 'N', 'S', ' ', '0', 'x', 'f', 'F', ',', '4']
      = some [.configpins 255#8 4#8] ∧
    parseLine ['T', 'I', 'C', 'K', ' ', '2', '7'] = some [.tick 27] ∧
    parseLine ['S', 'T', 'A', 'R', 'T'] = none := by decide

/-- R107: the API spellings, and an operand out of range. -/
theorem test_assembler_calls :
    parseLine "write(1, -1)".toList = some [.write 1 (-1)] ∧
    parseLine "setActiveChannelCount(0) ; halt".toList = some [.setcount 0] ∧
    parseLine "configurePins(0x7, 4)".toList = some [.configpins 7#8 4#8] ∧
    parseLine "configurePins(7, 256)".toList = none ∧ parseLine "write(1, 2".toList = none ∧
    parseLine "stop()".toList = none := by decide

/-- R106: one statement a line. -/
theorem test_assembler_program :
    parseProgram "WRITE 0, 5\nwrite(600, 5)\n; a comment\nTICK".toList =
      some [.write 0 5, .write 600 5, .tick 1] := by decide

/-- P2: the statements and the words of the source's out-of-range scenario. -/
theorem test_assembler_words :
    assemble [.write 0 5, .write 600 5, .tick 1] = [.command 0x100000005#36, .command 0x102580005#36, .tick] := by decide

/-! ### Witnesses: the hypotheses of every statement are met -/

theorem inv_reset : Inv State.reset := by
  constructor <;> first | decide | simp [running, State.reset, State.resetWith, HostPos.dataDriven, HostPos.markerDriven]

theorem inv_sending : Inv sending := by
  constructor <;> first | decide | (intro _; decide)

theorem inv_onePin : Inv { onePin with hostPos := .st1 } := by
  constructor <;> first | decide |
    simp [running, onePin, State.reset, State.resetWith, HostPos.dataDriven, HostPos.markerDriven]

theorem inv_raced : Inv raced := by
  constructor <;> first | decide | (intro _; decide)

theorem levels_sending : LevelsFollowTrace { sending with trace := .edge 4#8 .high :: sending.trace } := by
  constructor
  · decide
  · decide
  · intro pin h
    cases h
    rfl
  · intro _
    decide
  · intro _ _
    decide

theorem witness_DecodeUndoesEncode :
    Instr.wf (.write (-32768) 32767) = true ∧ (encode (.write (-32768) 32767)).isSome ∧
    (encode (.sendByte 255#8 0#8)).isSome ∧ encode .advance = none := by decide

theorem witness_CodesHaveOneMeaning :
    decode (.formatH 0x180007FFF#36) = .ok (.write (-32768) 32767) ∧
    decode (.formatS 3#8 0b01111111111#11) = .ok (.sendByte 255#8 3#8) ∧ decode (.formatE 1#1) = .ok .tick ∧
    decode (.formatF frameStartPattern) = .ok .frameStart := by decide

theorem witness_ReservedWordsIgnored :
    (0x5#4 ≤ (0x5#4 : BitVec 4) ∧ 0x5#4 ≤ (0xF#4 : BitVec 4)) ∧
    hostMayStep (next (.command (commandWord 0x5#4 1#16 1#16)) State.reset) = true ∧
    (next (.command (commandWord 0x5#4 1#16 1#16)) State.reset).hostPos = .idle ∧
    (next (.present (commandWord 0x0#4 0#16 0#16)) State.reset).schedule =
      [.present (commandWord 0x0#4 0#16 0#16)] := by decide

theorem witness_SlotCells :
    slotCell 0b00000000011#11 0 = false ∧ slotCell 0b00000000011#11 9 = true ∧ slotCell 0b00000000011#11 10 = true ∧
    (7 : Nat) < 8 ∧
    (after (exec (.sendByte 0#8 3#8) State.reset)).map (fun t => decide (.seg 3#8 .high 2 .exact ∈ t.trace)) =
      some true := by decide

theorem witness_AssembledCommandsDecode : inS16 (-32768) = true ∧ inS16 32767 = true := by decide

theorem witness_ApiSpellingsAreSynonyms :
    (apiMnemonic ['w', 'r', 'i', 't', 'e'] = some ['W', 'R', 'I', 'T', 'E'] ∧
      ∀ x ∈ ['1', ',', ' ', '-', '0', 'x'], x ≠ ';' ∧ x ≠ '(') ∧
    (parseInt ['-', '3', '2', '7', '6', '8'] = some (-32768) ∧ inS16 (-32768) = true) ∧
    (parseInt ['0', 'x', '7', 'f', 'F', 'F'] = some 32767 ∧ inS16 32767 = true) ∧
    parseInt ['2', '5', '5'] = some ((255#8).toNat : Int) :=
  ⟨⟨by decide, by simp⟩, ⟨rfl, by decide⟩, ⟨rfl, by decide⟩, rfl⟩

theorem witness_SendByteRule :
    (inside .f3 1 0 35).enginePos = .f3 ∧ (inside (.s3 5#8) 1 1 11).enginePos = .s3 5#8 := by decide

theorem witness_SlotCostIsTheCallersCharge :
    (slotCost ≤ (inside .l0 1 1 11).budget ∧ (after (exec .channelSlot (inside .l0 1 1 11))).isSome) ∧
    (24 + slotCost ≤ (inside .l0 1 0 35).budget ∧ (after (exec .frameStart (inside .l0 1 0 35))).isSome) := by decide

theorem witness_FrameStartResult : 35 ≤ (inside .l0 0 0 35).budget := by decide

theorem witness_ChannelSlotRule :
    (11 ≤ (inside .l0 1 1 11).budget ∧ 1 ≤ (inside .l0 1 1 11).ts ∧ (inside .l0 1 1 11).ts ≤ (inside .l0 1 1 11).params.n) ∧
    (11 ≤ (inside .l0 1 512 11).budget ∧ (inside .l0 1 512 11).ts ≤ (inside .l0 1 512 11).params.n) ∧
    (inside (.s3 5#8) 1 1 11).enginePos = .s3 5#8 := by decide

/-- A TS below and a TS above the channels. -/
theorem witness_ChannelSlotReadsFreeByte :
    (11 ≤ (inside .l0 1 0 11).budget ∧ (inside .l0 1 0 11).ts < 1) ∧
    (11 ≤ (inside .l0 1 513 11).budget ∧ (inside .l0 1 513 11).params.n < (inside .l0 1 513 11).ts) ∧
    (raced.enginePos = .s2 ∧ raced.ts < 1) := by decide

theorem witness_UnitDeferred :
    (inside .l0 1 0 34).budget < 35 ∧ (inside .l0 1 0 34).enginePos = .l0 ∧ (inside .l0 1 0 34).ts = 0 ∧
    (inside .l0 1 1 10).budget < 11 ∧ (inside .l0 1 1 10).ts ≠ 0 := by decide

theorem witness_AdvanceRule :
    (inside .a0 0 0 29).acc < (inside .a0 0 0 29).ts + 1 ∧ (inside .a0 1 0 29).ts + 1 ≤ (inside .a0 1 0 29).acc := by
  decide

theorem witness_UnitThenAdvance :
    ((inside .l0 1 0 35).ts = 0 ∧ 35 ≤ (inside .l0 1 0 35).budget) ∧
    ((inside .l0 3 513 11).ts ≠ 0 ∧ 11 ≤ (inside .l0 3 513 11).budget) := by decide

theorem witness_StartResult : State.reset.dataPinCfg ≠ State.reset.markerPinCfg := by decide

theorem witness_RestartResult : restarting.dataPinCfg ≠ restarting.markerPinCfg := by decide

/-- Both sides of the equivalences are met. -/
theorem witness_OnePinRefused :
    onePin.dataPinCfg = onePin.markerPinCfg ∧ onePin.started = false ∧ (1 : Int) ≤ onePin.params.n ∧
    exec .startProc onePin = .refused .onePinForBothLines ∧ exec (.write 1 0) onePin = .refused .onePinForBothLines ∧
    exec (.configpins 9#8 9#8) restarting = .refused .onePinForBothLines := by
  exact ⟨by decide, by decide, by decide, rfl, rfl, rfl⟩

theorem witness_WriteResult :
    ((0 : Int) < 1 ∧ (State.reset.params.n : Int) < 513) ∧
    ((512 : Int) ≤ State.reset.params.n ∧ State.reset.started = false ∧
      State.reset.dataPinCfg ≠ State.reset.markerPinCfg) ∧
    ((1 : Int) ≤ (block 64 0 0 []).params.n ∧ (block 64 0 0 []).started = true) := by decide

theorem witness_WriteFrame :
    Memory.wf (block 64 1 0 [(0, 9#8)]).params.n (block 64 1 0 [(0, 9#8)]).buf = true ∧
    (after (exec (.write 512 0) (block 64 1 0 [(0, 9#8)]))).isSome = true ∧
    (after (exec (.write 513 0) (block 64 1 0 [(0, 9#8)]))).isSome = true := by decide

theorem witness_SetcountRule :
    (0 : Int) ≤ 0 ∧ (0 : Int) < 1 ∧ (block 64 1 0 []).started = true ∧ State.reset.started = false := by decide

theorem witness_SetcountStarts :
    (0 : Int) < 1 ∧ State.reset.started = false ∧ State.reset.dataPinCfg ≠ State.reset.markerPinCfg := by decide

theorem witness_ConfigpinsResult :
    (restarting.params.pinChangeRestart = true ∧ restarting.started = true ∧ 7#8 ≠ restarting.dataPinCfg ∧
      (7#8 : Pin) ≠ 4#8) ∧
    State.reset.params.pinChangeRestart = false ∧
    ((3#8 : Pin) = restarting.dataPinCfg ∧ (4#8 : Pin) = restarting.markerPinCfg) := by decide

theorem witness_StopRule :
    State.reset.tickEn = false ∧ State.reset.started = false ∧ State.reset.acc = 0 ∧ (0 : Int) ≤ 0 := by decide

theorem witness_NewPinsWaitForStart :
    (block 57 2 0 []).params.pinChangeRestart = false ∧ tickAccepted (block 57 2 0 []) = true := by decide

theorem witness_OnlyWriteStores :
    (∃ t, exec .channelSlot (inside .l0 1 1 11) = .next t) ∧ (∃ t, exec (.setcount 3) State.reset = .next t) :=
  ⟨⟨_, rfl⟩, ⟨_, rfl⟩⟩

theorem witness_AccessRights :
    (∃ t, exec .channelSlot (inside .l0 1 1 11) = .next t) ∧ (∃ t, engineMicro sending = .next t) ∧
    (∃ t, exec (.write 1 1) State.reset = .next t) ∧
    (∃ t, hostMicro { State.reset with hostPos := .st1 } = .next t) :=
  ⟨⟨_, rfl⟩, ⟨_, rfl⟩, ⟨_, rfl⟩, ⟨_, rfl⟩⟩

theorem witness_OnlyWriteAndSetcountStart :
    State.reset.started = false ∧ (after (exec (.setcount 1) State.reset)).map (fun t => t.started) = some true := by
  decide

theorem witness_StoppedBlockStaysSilent :
    (State.reset.started = false ∧ State.reset.tickEn = false ∧ State.reset.hostPos = .idle ∧
      State.reset.enginePos = .idle) ∧
    decode (.formatH 0x102010001#36) = .ok (.write 513 1) ∧ (State.reset.params.n : Int) < 513 ∧
    (after (step (next (.command 0x102010001#36) State.reset))).isSome ∧
    (after (step (next .tick State.reset))).isSome := by decide

theorem witness_TraceOnlyGrows : ∃ t, step (next .tick (block 64 1 0 [])) = .next t := ⟨_, rfl⟩

theorem witness_DroppedTicksLeaveNoTrace :
    State.reset.tickEn = false ∧ (inside .l0 1 1 11).guard = true ∧ sending.irqMask = true := by decide

theorem witness_HandlerEntryAndExit :
    tickAccepted (block 64 1 0 []) = true ∧ (inside .x0 1 1 0).enginePos = .x0 := by decide

/-- Each clause: a starved tick, one that begins a frame and one inside a frame. -/
theorem witness_TickCompletes :
    (tickAccepted (block 0 512 512 []) = true ∧ (block 0 512 512 []).acc ≤ (block 0 512 512 []).params.n ∧
      (block 0 512 512 []).ts ≤ (block 0 512 512 []).params.n ∧ (block 0 512 512 []).dataLvl = .driven .high ∧
      (block 0 512 512 []).ts ≠ 0) ∧
    (tickAccepted (block 34 1 0 []) = true ∧ (block 34 1 0 []).ts = 0 ∧ (block 34 1 0 []).params.tickBudget < 35) ∧
    (tickAccepted (block 35 0 0 []) = true ∧ (block 35 0 0 []).ts = 0 ∧ 35 ≤ (block 35 0 0 []).params.tickBudget ∧
      (block 35 0 0 []).dataLvl = .driven .high) := by decide

/-- An invocation at its first micro-step, and one that a concurrent Start has left without a channel. -/
theorem witness_InvocationReachesItsExit :
    ((inside .e1 1 1 0).enginePos ≠ .idle ∧ (inside .e1 1 1 0).guard = true) ∧
    (raced.enginePos ≠ .idle ∧ raced.guard = true ∧ ∃ u, microRun step 3 raced = .next u) :=
  ⟨by decide, by decide, by decide, _, rfl⟩

theorem witness_BudgetTooSmall :
    (tickAccepted (block 34 1 0 []) = true ∧ (block 34 1 0 []).ts = 0 ∧ (block 34 1 0 []).params.tickBudget < 35) ∧
    (tickAccepted (block 10 5 2 []) = true ∧ (block 10 5 2 []).ts ≠ 0 ∧ (block 10 5 2 []).params.tickBudget < 11) := by
  decide

theorem witness_LoweredCountEndsTheFrame :
    tickAccepted (block 11 511 512 []) = true ∧ (block 11 511 512 []).acc < (block 11 511 512 []).ts ∧
    (block 11 511 512 []).ts ≤ (block 11 511 512 []).params.n ∧ 11 ≤ (block 11 511 512 []).params.tickBudget := by decide

theorem witness_FrameProperty :
    tickAccepted (block 35 3 0 []) = true ∧ (block 35 3 0 []).ts = 0 ∧
    (block 35 3 0 []).acc ≤ (block 35 3 0 []).params.n ∧ 35 ≤ (block 35 3 0 []).params.tickBudget ∧
    0 < 1 ∧ 1 < frameInvocations 35 3 := by decide

theorem witness_WriteReachesTheWire :
    Memory.wf State.reset.params.n State.reset.buf = true ∧ State.reset.acc ≤ State.reset.params.n ∧
    State.reset.ts ≤ State.reset.params.n ∧ 35 ≤ State.reset.params.tickBudget ∧ (512 : Int) ≤ State.reset.params.n ∧
    (after (exec (.write 512 7) State.reset)).map (fun t => (tickAccepted t, t.ts)) = some (true, 0) ∧
    (after (exec (.write 1 7) State.reset)).map (fun t => (tickAccepted t, t.ts)) = some (true, 0) := by decide

/-- A WRITE in mid-frame, and one behind a lowered count. -/
theorem witness_WriteReachesTheWire_midframe :
    Memory.wf 512 (block 35 3 2 []).buf = true ∧ (block 35 3 2 []).ts ≤ 512 ∧ 35 ≤ (block 35 3 2 []).params.tickBudget ∧
    (after (exec (.write 1 7) (block 35 3 2 []))).map (fun t => (tickAccepted t, t.ts, t.acc)) = some (true, 2, 3) ∧
    (after (exec (.write 1 7) (block 35 1 512 []))).map (fun t => (tickAccepted t, t.ts, t.acc)) =
      some (true, 512, 1) := by decide

theorem witness_NominalFrameTime : defaultParams.wf = true := by decide

theorem witness_StepRunsTheSchedule :
    (decode (.formatH 0x10001000A#36) = .ok (.write 1 10) ∧
      hostMayStep (next (.command 0x10001000A#36) State.reset) = true ∧
      (next (.command 0x10001000A#36) State.reset).hostPos = .idle) ∧
    hostSelected (next .hostOp { State.reset with hostPos := .st1 }) = some .startProc ∧
    engineSelected (next .engineOp (inside .l0 1 1 11)) = some .channelSlot ∧
    ((next .others State.reset).irqMask = false ∧
      (next .others sending).irqMask = true ∧ (next .others sending).enginePos ≠ .idle) := by decide

theorem witness_PlacedWordRuns :
    decodeTableWord 40 0x10001000A = some (.write 1 10) ∧ Instr.write 1 10 ≠ .frameStart := by decide

theorem witness_SlotIsUninterruptible :
    Inv sending ∧ sending.irqMask = true ∧ ∃ t, step sending = .next t :=
  ⟨inv_sending, rfl, _, rfl⟩

theorem witness_HostWaitsForTheInvocation :
    (inside .e1 1 0 0).params.concurrentHost = false ∧ (inside .e1 1 0 0).enginePos ≠ .idle ∧
    ∃ t, step (next (.command 0x400000000#36) (inside .e1 1 0 0)) = .next t :=
  ⟨by decide, by decide, _, rfl⟩

theorem witness_HostMicroStepsAreTheOperation :
    hostSelected { State.reset with hostPos := .w0 512 1 } = some (.write 512 1) ∧
    hostSelected { State.reset with hostPos := .sp1 true } = some .restart := by decide

theorem witness_EngineMicroStepsAreTheOperation :
    engineSelected (inside .l0 1 0 35) = some .frameStart ∧ engineSelected (inside .l0 1 1 11) = some .channelSlot ∧
    engineSelected (inside .f3 1 0 35) = some (.sendByte 0#8 3#8) ∧ engineSelected (inside .a0 1 0 0) = some .advance := by
  decide

theorem witness_TickMicroStepsAreTheTick : tickAccepted (block 64 1 0 []) = true := by decide

theorem witness_InvariantAtReset : defaultParams.wf = true ∧ defaultParams.concurrentHost = false := by decide

theorem witness_InvariantKept :
    (Inv sending ∧ ∃ t, step sending = .next t) ∧
    (Inv State.reset ∧ ∃ t, step (next (.command 0x10001000A#36) State.reset) = .next t) :=
  ⟨⟨inv_sending, _, rfl⟩, inv_reset, _, rfl⟩

theorem witness_LevelsFollowTraceKept :
    Inv { sending with trace := .edge 4#8 .high :: sending.trace } ∧
    LevelsFollowTrace { sending with trace := .edge 4#8 .high :: sending.trace } ∧
    ∃ t, step { sending with trace := .edge 4#8 .high :: sending.trace } = .next t := by
  refine ⟨?_, levels_sending, _, rfl⟩
  obtain ⟨h1, h2, h3, h4, h5, h6, h7, h8, h9, h10, h11, h12, h13, h14, h15⟩ := inv_sending
  exact ⟨h1, h2, h3, h4, h5, h6, h7, h8, h9, h10, h11, h12, h13, h14, h15⟩

/-- A run that issues a WRITE, at its second state. -/
theorem witness_ReachableStates :
    defaultParams.wf = true ∧ ∃ s, Reachable defaultParams s ∧ s.acc = 5 ∧ s.started = true :=
  ⟨by decide, _, .step _ _ (.reset [.command 0x100050001#36]) rfl, by decide, by decide⟩

theorem witness_StepsComplete :
    (Inv State.reset ∧ State.reset.params.pinChangeRestart = false ∧
      State.reset.dataPinCfg ≠ State.reset.markerPinCfg) ∧
    (Inv raced ∧ raced.params.pinChangeRestart = false ∧ raced.dataPinCfg ≠ raced.markerPinCfg) ∧
    (Inv { onePin with hostPos := .st1 } ∧ step { onePin with hostPos := .st1 } = .refused .onePinForBothLines) :=
  ⟨⟨inv_reset, by decide, by decide⟩, ⟨inv_raced, by decide, by decide⟩, inv_onePin, rfl⟩

theorem witness_ReadAfterWrite :
    Memory.wf State.reset.params.n State.reset.buf = true ∧ ((0 : Int) ≤ 511 ∧ (511 : Int) < State.reset.params.n) ∧
    ¬ (0 ≤ (-1 : Int) ∧ (-1 : Int) < State.reset.params.n) ∧
    ¬ (0 ≤ (512 : Int) ∧ (512 : Int) < State.reset.params.n) := by decide

theorem witness_CanonicalBuffersAreEqual :
    Memory.wf 512 [(0, 1#8), (511, 2#8)] = true ∧ Memory.wf 512 [(511, 2#8), (0, 1#8)] = false ∧
    Memory.wf 512 [(0, 0#8)] = false := by decide

/-- Two blocks of different sizes, and a step of one of two. -/
theorem witness_InstancesAreIndependent :
    systemParamsWf [{ defaultParams with instances := 2 },
      { defaultParams with instances := 2, bufferSize := .n128, defaultDataPin := 5#8, defaultMarkerPin := 6#8 }] = true ∧
    ∃ t, systemStep 0 [next .tick (block 64 1 0 []), State.reset] = .next t := ⟨by decide, _, rfl⟩

end Sys2Proof.Tests
end

section
/-! PROOFS. The statements of 30_encoding.md: STOP reads no operand (R96), and the eleven cells of a slot (R99). The
cells of a slot word are the list `cells` that the word is built from, so each fact about the word is read off that list. -/

namespace Sys2Proof

/-! ### STOP -/

/-- The op field alone selects STOP (30_encoding.md R96). -/
theorem decodeCommand_of_op_stop {cmd : CmdWord} (h : opField cmd = 0x4#4) : decodeCommand cmd = .ok .stop := by
  simp [decodeCommand, h]

/-- Settles O5: the decoder looks at the op field only, which is 0x4 whatever the operands are. -/
theorem stopWordReadsNoOperand : Obligations.StopWordReadsNoOperand := by
  intro a b
  exact decodeCommand_of_op_stop (opField_commandWord 0x4#4 a b)

/-! ### Bits and numbers -/

theorem bitNat_eq_toNat (b : Bool) : bitNat b = b.toNat := by
  cases b <;> rfl

theorem cellsNat_append_singleton (cs : List Bool) (b : Bool) : cellsNat (cs ++ [b]) = Nat.bit b (cellsNat cs) := by
  simp [cellsNat, bitNat_eq_toNat, Nat.bit_val]

/-- The last cell is the least significant bit. -/
theorem cellsNat_testBit (cs : List Bool) (i : Nat) : (cellsNat cs).testBit i = cs.reverse.getD i false := by
  induction cs using List.reverseRecOn generalizing i with
  | nil => simp [cellsNat]
  | append_singleton cs b ih =>
    rw [cellsNat_append_singleton, List.reverse_concat]
    cases i with
    | zero => simp
    | succ i => simp [Nat.testBit_bit_succ, ih]

/-- The receiver's sum over the low `k` bits of a number (R99). -/
theorem sum_bitNat_testBit (n k : Nat) :
    ((List.range k).map fun i => bitNat (n.testBit i) * 2 ^ i).sum = n % 2 ^ k := by
  induction k with
  | zero => simp [Nat.mod_one]
  | succ k ih =>
    rw [List.range_succ, List.map_append, List.sum_append, ih, List.map_singleton, List.sum_singleton,
      bitNat_eq_toNat, Nat.toNat_testBit, Nat.mod_pow_succ, Nat.mul_comm]

/-! ### The cells of a slot word -/

/-- The cells of a slot word are the cells it is built from, in time order (R99). -/
theorem slotCell_slotWord (v : Byte) {k : Nat} (hk : k < 11) : slotCell (slotWord v) k = (cells v).getD k false := by
  have len : (cells v).length = 11 := rfl
  have bit : slotCell (slotWord v) k = (cells v).reverse.getD (10 - k) false := by
    simp only [slotCell, slotWord, BitVec.getLsbD_ofNat, cellsNat_testBit, show 10 - k < 11 by omega, decide_true,
      Bool.true_and]
  rw [bit, List.getD_reverse _ (by omega), len, show 11 - 1 - (10 - k) = k by omega]

theorem slotCell_slotWord_data (v : Byte) {i : Nat} (hi : i < 8) :
    slotCell (slotWord v) (1 + i) = v.getLsbD i := by
  rw [slotCell_slotWord v (by omega)]
  interval_cases i <;> rfl

theorem map_slotCell_slotWord (v : Byte) : (List.range 11).map (slotCell (slotWord v)) = cells v :=
  calc (List.range 11).map (slotCell (slotWord v))
    _ = (List.range 11).map ((cells v).getD · false) :=
      List.map_congr_left fun _ hk => slotCell_slotWord v (List.mem_range.mp hk)
    _ = cells v := rfl

/-- The receiver's sum inverts the slot (R99). -/
theorem toNat_eq_sum_slotCell (v : Byte) :
    v.toNat = ((List.range 8).map fun i => bitNat (slotCell (slotWord v) (1 + i)) * 2 ^ i).sum :=
  calc v.toNat
    _ = v.toNat % 2 ^ 8 := (Nat.mod_eq_of_lt v.isLt).symm
    _ = ((List.range 8).map fun i => bitNat (v.getLsbD i) * 2 ^ i).sum := (sum_bitNat_testBit v.toNat 8).symm
    _ = ((List.range 8).map fun i => bitNat (slotCell (slotWord v) (1 + i)) * 2 ^ i).sum := by
      refine congrArg List.sum (List.map_congr_left fun i hi => ?_)
      rw [slotCell_slotWord_data v (List.mem_range.mp hi)]

/-! ### Eleven cells read as a byte -/

/-- A slot word is determined by its eleven cells. -/
theorem eq_of_slotCell_eq {w w' : BitVec 11} (h : ∀ k < 11, slotCell w k = slotCell w' k) : w = w' := by
  apply BitVec.eq_of_getLsbD_eq
  intro i hi
  have cell := h (10 - i) (by omega)
  rwa [slotCell, slotCell, show 10 - (10 - i) = i by omega] at cell

theorem slotValue_eq_cellsNat (w : BitVec 11) :
    slotValue w = BitVec.ofNat 8 (cellsNat [slotCell w 8, slotCell w 7, slotCell w 6, slotCell w 5, slotCell w 4,
      slotCell w 3, slotCell w 2, slotCell w 1]) := by
  refine congrArg (BitVec.ofNat 8) ?_
  simp only [cellsNat, List.foldl_cons, List.foldl_nil]
  ring

/-- Bit `i` of the byte a receiver reads is cell `1 + i` (R99). -/
theorem slotValue_getLsbD (w : BitVec 11) {i : Nat} (hi : i < 8) : (slotValue w).getLsbD i = slotCell w (1 + i) := by
  simp only [slotValue_eq_cellsNat, BitVec.getLsbD_ofNat, cellsNat_testBit, hi]
  interval_cases i <;> rfl

/-- Eleven cells with a low start bit and high stop bits are the slot of the byte the receiver reads (R99). -/
theorem slotWord_slotValue {w : BitVec 11} (h0 : slotCell w 0 = false) (h9 : slotCell w 9 = true)
    (h10 : slotCell w 10 = true) : slotWord (slotValue w) = w := by
  refine eq_of_slotCell_eq fun k hk => ?_
  by_cases data : 1 ≤ k ∧ k < 9
  · obtain ⟨i, rfl⟩ := Nat.exists_eq_add_of_le data.1
    rw [slotCell_slotWord_data _ (by omega), slotValue_getLsbD w (by omega)]
  · obtain rfl | rfl | rfl : k = 0 ∨ k = 9 ∨ k = 10 := by omega
    · exact (slotCell_slotWord _ hk).trans h0.symm
    · exact (slotCell_slotWord _ hk).trans h9.symm
    · exact (slotCell_slotWord _ hk).trans h10.symm

end Sys2Proof

namespace Sys2Proof.Machine

/-! ### The items of SEND_BYTE -/

/-- The items SEND_BYTE appends drive the byte's cells, one bit period each (41_byte_transmitter.md R141). -/
theorem segLevels_slotItems (pin : Pin) (v : Byte) : segLevels pin (slotItems pin v) = (cells v).map Level.ofBit := by
  simp [slotItems, segLevels, cells, bitLevel, Level.ofBit]

/-- SEND_BYTE drives its own pin only and holds every level exactly (R141). -/
theorem seg_mem_slotItems {pin p : Pin} {v : Byte} {l : Level} {d : Nat} {h : Hold}
    (mem : TraceItem.seg p l d h ∈ slotItems pin v) : p = pin ∧ h = .exact := by
  simp only [slotItems, List.mem_cons, TraceItem.seg.injEq, reduceCtorEq, List.not_mem_nil] at mem
  tauto

/-- The instruction SEND_BYTE appends its slot and ends with the line high (R140). -/
theorem exec_sendByte (v : Byte) (pin : Pin) (s : State) :
    exec (.sendByte v pin) s = .next { s with
      txb := v, irqMask := false, dataLvl := .driven .high, trace := s.trace ++ slotItems pin v } :=
  congrArg Host.Outcome.next (transmit_eq v pin s)

theorem segLevels_slotItems_eq_slotCell (pin : Pin) (v : Byte) :
    segLevels pin (slotItems pin v) =
      (List.range 11).map (fun k => if slotCell (slotWord v) k then Level.high else Level.low) := by
  rw [segLevels_slotItems, ← map_slotCell_slotWord, List.map_map]
  rfl

/-- Settles O7, from the cells of a slot word, the items of SEND_BYTE and the byte read from eleven cells. -/
theorem slotCells : Obligations.SlotCells := by
  constructor
  · intro v pin
    refine ⟨rfl, slotCell_slotWord v (by decide), fun i hi => slotCell_slotWord_data v hi,
      slotCell_slotWord v (by decide), slotCell_slotWord v (by decide), toNat_eq_sum_slotCell v, fun s => ?_⟩
    exact ⟨slotItems pin v, exec_sendByte v pin s, segLevels_slotItems_eq_slotCell pin v,
      fun _ _ _ _ mem => seg_mem_slotItems mem⟩
  · intro pin w h0 h9 h10
    have word : slotWord (slotValue w) = w := slotWord_slotValue h0 h9 h10
    have read := decodeSlot_slotWord pin (slotValue w)
    rw [word] at read
    exact ⟨slotValue w, word.symm, read⟩

end Sys2Proof.Machine
end

section
/-! PROOFS. The statements of 40_config_commands.md: SETCOUNT (R121) and STOP (R123). The decoder's part is read off the
op field; the operation's part comes from what Stop, and SETCOUNT on each side of 0, leave. -/

namespace Sys2Proof.Machine

/-! ### SETCOUNT -/

/-- The op field selects SETCOUNT, whose count is field A alone (30_encoding.md R94). -/
theorem decodeCommand_of_op_setcount {cmd : CmdWord} (h : opField cmd = 0x2#4) :
    decodeCommand cmd = .ok (.setcount (aField cmd).toInt) := by
  simp [decodeCommand, h, sext16]

theorem decode_setcount_commandWord (a b : BitVec 16) :
    decode (.formatH (commandWord 0x2#4 a b)) = .ok (.setcount a.toInt) := by
  have word := decodeCommand_of_op_setcount (opField_commandWord 0x2#4 a b)
  rwa [aField_commandWord] at word

theorem exec_stopProc (s : State) :
    exec .stopProc s = .next { s with tickEn := false, started := false, acc := 0 } :=
  congrArg Host.Outcome.next (stopProcedure_eq s)

/-- The instruction SETCOUNT of a count at or below 0 is the instruction Stop (R121). -/
theorem exec_setcount_of_nonpos {n : Int} (h : n ≤ 0) (s : State) : exec (.setcount n) s = exec .stopProc s :=
  execSetcount_stops h

/-- The instruction SETCOUNT of a positive count clamps it to N and goes on as its C2 (R121). -/
theorem exec_setcount_of_pos {n : Int} (h : 0 < n) (s : State) :
    exec (.setcount n) s = startIfStopped { s with acc := min n.toNat s.params.n } :=
  execSetcount_counts h

/-- Settles O25, by the sign of the count and, for a positive one, by whether the block is started. -/
theorem setcountRule : Obligations.SetcountRule := by
  refine ⟨decode_setcount_commandWord, fun n s => ⟨fun nonpos => ?_, fun pos started => ?_, fun pos stopped => ?_⟩⟩
  · have stops := exec_setcount_of_nonpos nonpos s
    exact ⟨stops, stops.trans (exec_stopProc s)⟩
  · rw [exec_setcount_of_pos pos]
    exact startIfStopped_started started
  · rw [exec_setcount_of_pos pos]
    exact startIfStopped_stopped stopped

/-! ### STOP -/

/-- The instruction STOP is a call of Stop (R123). -/
theorem exec_stop (s : State) : exec .stop s = exec .stopProc s := rfl

/-- Stop has nothing to change on a block that is stopped already (R125). -/
theorem stopProcedure_of_stopped {s : State} (tickEn : s.tickEn = false) (started : s.started = false)
    (acc : s.acc = 0) : stopProcedure s = s := by
  apply State.ext <;> simp [tickEn, started, acc]

/-- Settles O28: STOP is Stop; a stopped block is a fixed point of Stop, and SETCOUNT of a count at or below 0 is Stop
too. -/
theorem stopRule : Obligations.StopRule := by
  refine ⟨stopWordReadsNoOperand, fun s => ⟨exec_stop s, (exec_stop s).trans (exec_stopProc s)⟩,
    fun s tickEn started acc => ?_, fun n s nonpos => ?_⟩
  · exact congrArg Host.Outcome.next (stopProcedure_of_stopped tickEn started acc)
  · exact (exec_stop s).trans (exec_setcount_of_nonpos nonpos s).symm

end Sys2Proof.Machine
end

section
/-! PROOFS. The statements of 41_byte_transmitter.md: what SEND_BYTE does (R140) and who pays for it (R144). Both come
from the state SEND_BYTE leaves and from the twelve items of a slot. -/

namespace Sys2Proof.Machine

/-! ### The items of a slot -/

/-- The items of a slot in the order of R140: mask, start bit, the data bits from the least significant, stop bits,
unmask. -/
theorem slotItems_eq_frame (pin : Pin) (v : Byte) :
    slotItems pin v =
      [TraceItem.mask true, .seg pin .low 1 .exact]
        ++ (List.range 8).map (fun i => .seg pin (if v.getLsbD i then .high else .low) 1 .exact)
        ++ [.seg pin .high 2 .exact, .mask false] := rfl

theorem length_slotItems (pin : Pin) (v : Byte) : (slotItems pin v).length = 12 := rfl

/-- A slot lasts the 11 bit periods of its charge, whatever its byte is (R144). -/
theorem traceBits_slotItems (pin : Pin) (v : Byte) : traceBits (slotItems pin v) = slotCost := rfl

/-! ### The call of SEND_BYTE -/

/-- FRAME_START calls SEND_BYTE with the start code and the active data pin (42_frame_tick.md R155). -/
theorem engineMicro_f3 {s : State} (h : s.enginePos = .f3) :
    engineMicro s = .next ((sendLatch startCode s).setEnginePos (.send .b1 s.dataPinAct .frameStart)) := by
  simp only [engineMicro, h]

/-- CHANNEL_SLOT calls SEND_BYTE with the byte it has read and the active data pin (42_frame_tick.md R156). -/
theorem engineMicro_s3 {s : State} {b : Byte} (h : s.enginePos = .s3 b) :
    engineMicro s = .next ((sendLatch b s).setEnginePos (.send .b1 s.dataPinAct .channelSlot)) := by
  simp only [engineMicro, h]

/-- B0 as the state it leaves, with the position of the micro-step (R140). -/
theorem sendLatch_setEnginePos_eq (v : Byte) (p : EnginePos) (s : State) :
    (sendLatch v s).setEnginePos p =
      { s with txb := v, irqMask := true, enginePos := p, trace := s.trace ++ [.mask true] } := rfl

/-- Settles O11, from the state SEND_BYTE leaves, the list of its items, and the callers' micro-steps F3 and S3. -/
theorem sendByteRule : Obligations.SendByteRule := by
  refine ⟨fun v pin s => ?_, fun s pos => ?_, fun s b pos => ?_⟩
  · exact ⟨slotItems pin v, exec_sendByte v pin s, slotItems_eq_frame pin v, length_slotItems pin v,
      traceBits_slotItems pin v⟩
  · rw [engineMicro_f3 pos, sendLatch_setEnginePos_eq]
    rfl
  · rw [engineMicro_s3 pos, sendLatch_setEnginePos_eq]

/-! ### The charge -/

/-- SEND_BYTE commutes with a change of BUDGET: it neither reads nor writes it (R144). -/
theorem transmit_setBudget (v : Byte) (pin : Pin) (s : State) (b : Nat) :
    transmit v pin (s.setBudget b) = (transmit v pin s).setBudget b := by
  rw [transmit_eq, transmit_eq]
  rfl

/-- CHANNEL_SLOT that has its budget takes the cost of the slot off (42_frame_tick.md R156). -/
theorem budget_of_exec_channelSlot {s t : State} (h : slotCost ≤ s.budget) (run : exec .channelSlot s = .next t) :
    t.budget = s.budget - slotCost := by
  obtain rfl := Host.Outcome.next.inj ((execChannelSlot_sends h).symm.trans run)
  rfl

/-- FRAME_START that has its budget takes its whole cost off (42_frame_tick.md R155). -/
theorem budget_of_exec_frameStart {s t : State} (h : frameStartCost ≤ s.budget)
    (run : exec .frameStart s = .next t) : t.budget = s.budget - frameStartCost := by
  obtain rfl := Host.Outcome.next.inj ((execFrameStart_commits h).symm.trans run)
  rfl

/-- The cost of FRAME_START is the break and the mark-after-break, 24, and its slot. -/
theorem frameStartCost_eq : frameStartCost = 24 + slotCost := rfl

/-- Settles O12: a slot lasts its cost, SEND_BYTE commutes with a change of BUDGET, and each caller takes its cost
off. -/
theorem slotCostIsTheCallersCharge : Obligations.SlotCostIsTheCallersCharge := by
  refine ⟨rfl, fun v pin => traceBits_slotItems pin v, fun v pin s b => ?_, fun s t => budget_of_exec_channelSlot,
    fun s t => ?_⟩
  · exact ⟨transmit v pin s, rfl, transmit_budget s v pin,
      congrArg Host.Outcome.next (transmit_setBudget v pin s b)⟩
  · rw [← frameStartCost_eq]
    exact budget_of_exec_frameStart

end Sys2Proof.Machine
end

section
/-! PROOFS. The statements of 42_frame_tick.md: CHANNEL_SLOT on a channel (R156) and ADVANCE (R157). The state each
leaves is the model's own law about the operation; the slot's byte is the local of S3. -/

namespace Sys2Proof.Machine

/-! ### CHANNEL_SLOT -/

/-- The instruction CHANNEL_SLOT with the budget for it and a channel in 1..N, its items in the order of R156: the edge
of the marker, then the slot. -/
theorem exec_channelSlot_of_channel {s : State} (budget : slotCost ≤ s.budget) (low : 1 ≤ s.ts)
    (high : s.ts ≤ s.params.n) :
    exec .channelSlot s = .next { s with
      budget := s.budget - slotCost, txb := s.bufAt (s.ts - 1), irqMask := false, dataLvl := .driven .high,
      markerLvl := .driven .low, enginePos := .a0,
      trace := s.trace ++ [.edge s.markerPinAct .low] ++ slotItems s.dataPinAct (s.bufAt (s.ts - 1)) } := by
  rw [List.append_assoc]
  exact execChannelSlot_commits budget low high

/-- Settles O14: the operation leaves ADVANCE next, and S3 calls SEND_BYTE with its local byte, which B0 latches. -/
theorem channelSlotRule : Obligations.ChannelSlotRule := by
  refine ⟨fun s budget low high => ⟨.a0, exec_channelSlot_of_channel budget low high⟩,
    fun s b pos => ⟨.send .b1 s.dataPinAct .channelSlot, ?_⟩⟩
  rw [engineMicro_s3 pos, sendLatch_setEnginePos_eq]

/-! ### ADVANCE -/

/-- The instruction ADVANCE is A1 with the local `TS + 1` of A0 (R157). -/
theorem exec_advance (s : State) : exec .advance s = .next (advanceTo (s.ts + 1) s) := rfl

/-- Settles O17, by whether `TS + 1` exceeds ACC. -/
theorem advanceRule : Obligations.AdvanceRule := by
  refine fun s => ⟨fun past => ?_, fun inFrame => ?_⟩
  · rw [exec_advance, advanceTo_ends past]
  · rw [exec_advance, advanceTo_goes_on inFrame]

end Sys2Proof.Machine
end

section
/-! PROOFS. The statements of 30_encoding.md about decoder, encoder and assembler: the round trips (R91 to R104), the
operand bits that are not read (R94, R95), saturation (R93), the assembler's words (R106) and the API spellings (R107). -/

namespace Sys2Proof

/-! ### Round trips -/

/-- An instruction that has a code is read back from it: one law per instruction. -/
theorem roundTrip (i : Instr) : Laws.RoundTrip.Statement i := by
  cases i with
  | write c v => exact Laws.RoundTrip.write c v
  | setcount n => exact Laws.RoundTrip.setcount n
  | configpins d m => exact Laws.RoundTrip.configpins d m
  | stop => exact Laws.RoundTrip.stop
  | tick => exact Laws.RoundTrip.tick
  | frameStart => exact Laws.RoundTrip.frameStart
  | channelSlot => exact Laws.RoundTrip.channelSlot
  | sendByte v p => exact Laws.RoundTrip.sendByte v p
  | advance => exact Laws.RoundTrip.advance
  | startProc => exact Laws.RoundTrip.startProc
  | stopProc => exact Laws.RoundTrip.stopProc
  | restart => exact Laws.RoundTrip.restart

theorem encode_eq_none {i : Instr} : encode i = none ↔
    i = .channelSlot ∨ i = .advance ∨ i = .startProc ∨ i = .stopProc ∨ i = .restart := by
  cases i <;> simp [encode]

/-- Settles O2, from the round trip of each instruction and the rows of `encode` that have no code. -/
theorem decodeUndoesEncode : Obligations.DecodeUndoesEncode :=
  ⟨roundTrip, fun _ => encode_eq_none⟩

/-! ### The operand fields -/

theorem inS16_eq_true {v : Int} : inS16 v = true ↔ -32768 ≤ v ∧ v ≤ 32767 := by
  simp [inS16]

/-- A field read as a signed number is in the range of an s16 (R93). -/
theorem inS16_sext16 (field : BitVec 16) : inS16 (sext16 field) = true := by
  have lo := field.le_toInt
  have hi := field.toInt_lt
  rw [inS16_eq_true, sext16]
  omega

theorem ofInt_sext16 (field : BitVec 16) : BitVec.ofInt 16 (sext16 field) = field :=
  BitVec.ofInt_toInt

/-- A pin operand put back into its field leaves the high byte 0 (R95). -/
theorem setWidth_lowByte (field : BitVec 16) : (lowByte field).setWidth 16 = field &&& 0x00FF#16 := by
  apply BitVec.eq_of_toNat_eq
  have mask : field.toNat &&& 255 = field.toNat % 2 ^ 8 := Nat.and_two_pow_sub_one_eq_mod _ 8
  have low : field.toNat % 256 < 65536 := (Nat.mod_lt _ (by decide)).trans (by decide)
  simpa [lowByte, mask] using low

theorem lowByte_eq_ofNat (field : BitVec 16) : lowByte field = BitVec.ofNat 8 (field.toNat % 256) := by
  apply BitVec.eq_of_toNat_eq
  simp [lowByte]

theorem decode_write_commandWord (a b : BitVec 16) :
    decode (.formatH (commandWord 0x1#4 a b)) = .ok (.write (sext16 a) (sext16 b)) := by
  simp [decode, decodeCommand]

theorem decode_configpins_commandWord (a b : BitVec 16) :
    decode (.formatH (commandWord 0x3#4 a b)) = .ok (.configpins (lowByte a) (lowByte b)) := by
  simp [decode, decodeCommand]

/-- Settles O6: SETCOUNT reads field A and CONFIGPINS the two low bytes. -/
theorem ignoredOperandBits : Obligations.IgnoredOperandBits := by
  refine ⟨Machine.decode_setcount_commandWord, fun a b => ?_⟩
  rw [decode_configpins_commandWord, lowByte_eq_ofNat, lowByte_eq_ofNat]

/-- Settles O1: each sample word is decoded by evaluation. -/
theorem sampleWordsDecode : Obligations.SampleWordsDecode := by
  unfold Obligations.SampleWordsDecode
  decide

/-! ### Accepted codes -/

theorem decodeCommand_wf {cmd : CmdWord} {i : Instr} (h : decodeCommand cmd = .ok i) : i.wf = true := by
  unfold decodeCommand at h
  split_ifs at h <;> cases h <;> simp [Instr.wf, inS16_sext16]

/-- A slot is accepted with a low start bit and high stop bits, and stands for SEND_BYTE of its byte (R99). -/
theorem decodeSlot_eq_ok {pin : Pin} {w : BitVec 11} {i : Instr} : decodeSlot pin w = .ok i ↔
    slotCell w 0 = false ∧ slotCell w 9 = true ∧ slotCell w 10 = true ∧ i = .sendByte (slotValue w) pin := by
  unfold decodeSlot
  split_ifs with start stop
  · simp [start]
  · simp only [Bool.and_eq_false_iff] at stop
    rcases stop with stop | stop <;> simp [stop]
  · simp only [Bool.not_eq_true, Bool.not_eq_false, Bool.and_eq_true] at start stop
    simp [start, stop, @eq_comm _ i]

theorem decode_formatE_eq_ok {line : BitVec 1} {i : Instr} :
    decode (.formatE line) = .ok i ↔ line = 1#1 ∧ i = .tick := by
  simp only [decode]
  split_ifs with pulse <;> simp [pulse, @eq_comm _ i]

theorem decode_formatF_eq_ok {cells : BitVec 35} {i : Instr} :
    decode (.formatF cells) = .ok i ↔ cells = frameStartPattern ∧ i = .frameStart := by
  simp only [decode]
  split_ifs with pattern <;> simp [pattern, @eq_comm _ i]

/-- The decoder answers well-formed instructions only. -/
theorem decode_wf {c : Code} {i : Instr} (h : decode c = .ok i) : i.wf = true := by
  cases c with
  | formatH cmd => exact decodeCommand_wf h
  | formatE line =>
    obtain ⟨-, rfl⟩ := decode_formatE_eq_ok.mp h
    rfl
  | formatS pin cells =>
    obtain ⟨-, -, -, rfl⟩ := decodeSlot_eq_ok.mp h
    rfl
  | formatF cells =>
    obtain ⟨-, rfl⟩ := decode_formatF_eq_ok.mp h
    rfl

/-- Settles O3, format by format; in format H a field read and written back is the field, cut to its low byte for a
pin. -/
theorem codesHaveOneMeaning : Obligations.CodesHaveOneMeaning := by
  refine ⟨fun _ _ => decode_wf, fun pin cells i h => ?_, fun line i h => ?_, fun cells i h => ?_, fun a b => ?_,
    fun a b => ?_, fun a b => ?_, fun a b => ?_⟩
  · obtain ⟨h0, h9, h10, rfl⟩ := decodeSlot_eq_ok.mp h
    simp only [encode, slotWord_slotValue h0 h9 h10]
  · obtain ⟨rfl, rfl⟩ := decode_formatE_eq_ok.mp h
    rfl
  · obtain ⟨rfl, rfl⟩ := decode_formatF_eq_ok.mp h
    rfl
  · exact ⟨_, decode_write_commandWord a b, by simp only [encode, ofInt_sext16]⟩
  · exact ⟨_, Machine.decode_setcount_commandWord a b, by simp only [encode, BitVec.ofInt_toInt]⟩
  · exact ⟨_, decode_configpins_commandWord a b, by simp only [encode, setWidth_lowByte]⟩
  · exact ⟨_, stopWordReadsNoOperand a b, rfl⟩

end Sys2Proof

namespace Sys2Proof.Machine

/-! ### Saturation of API integers -/

theorem saturate16_of_inS16 {v : Int} (h : inS16 v = true) : saturate16 v = v := by
  rw [inS16_eq_true] at h
  simp only [saturate16, clamp]
  split_ifs <;> omega

theorem inS16_saturate16 (v : Int) : inS16 (saturate16 v) = true := by
  simp only [inS16_eq_true, saturate16, clamp]
  split_ifs <;> omega

/-- Saturation keeps the channel number where it is in the buffer, whose size is at most 512 (00_scope.md R7). -/
theorem saturate16_compare (p : Params) (v : Int) :
    (v < 1 → saturate16 v < 1) ∧ ((p.n : Int) < v → (p.n : Int) < saturate16 v) ∧
      (1 ≤ v → v ≤ p.n → saturate16 v = v) ∧ min (saturate16 v).toNat p.n = min v.toNat p.n ∧
      (saturate16 v ≤ 0 ↔ v ≤ 0) := by
  have size : p.n = 512 ∨ p.n = 128 := by
    unfold Params.n
    cases p.bufferSize <;> simp [BufferSize.toNat]
  simp only [saturate16, clamp]
  split_ifs <;> omega

theorem clampValue_saturate16 (v : Int) : clampValue (saturate16 v) = clampValue v := by
  have same : clamp (saturate16 v) 0 255 = clamp v 0 255 := by
    simp only [saturate16, clamp]
    split_ifs <;> omega
  rw [clampValue, clampValue, same]

/-- WRITE of the saturated operands (R93). -/
theorem exec_apiWrite (c v : Int) (s : State) : exec (apiWrite c v) s = exec (.write c v) s := by
  obtain ⟨below, above, inside, -⟩ := saturate16_compare s.params c
  change execWrite (saturate16 c) (saturate16 v) s = execWrite c v s
  by_cases channel : 1 ≤ c ∧ c ≤ s.params.n
  · rw [inside channel.1 channel.2, execWrite_inside channel.1 channel.2, execWrite_inside channel.1 channel.2,
      clampValue_saturate16]
  · rw [execWrite_outside (c := c) (by omega), execWrite_outside]
    by_cases low : c < 1
    · exact .inl (below low)
    · exact .inr (above (by omega))

/-- SETCOUNT of the saturated count (R94). -/
theorem exec_apiSetActiveChannelCount (n : Int) (s : State) :
    exec (apiSetActiveChannelCount n) s = exec (.setcount n) s := by
  obtain ⟨-, -, -, count, sign⟩ := saturate16_compare s.params n
  by_cases stop : n ≤ 0
  · exact (execSetcount_stops (sign.mpr stop)).trans (execSetcount_stops stop).symm
  · have counts := exec_setcount_of_pos (n := saturate16 n) (by omega) s
    rw [count] at counts
    exact counts.trans (exec_setcount_of_pos (by omega) s).symm

/-- Settles O8: saturation moves no channel into or out of 1..N and no count across 0 or below N. -/
theorem saturationKeepsTheResult : Obligations.SaturationKeepsTheResult := by
  refine ⟨fun c v s => ⟨?_, exec_apiWrite c v s⟩, fun n s => ⟨?_, exec_apiSetActiveChannelCount n s⟩⟩
  · simp only [apiWrite, Instr.wf, inS16_saturate16, Bool.and_self]
  · exact inS16_saturate16 n

/-! ### The assembler -/

/-- An instruction with a command word assembles to that word, which decodes to it. -/
theorem commandEvents_of_encode {i : Instr} {w : CmdWord} (wf : i.wf = true) (code : encode i = some (.formatH w)) :
    commandEvents i = [.command w] ∧ decode (.formatH w) = .ok i := by
  refine ⟨?_, roundTrip i wf _ code⟩
  simp only [commandEvents, code]

/-- Settles O9: an operand in range is its own saturation, and the word of SETCOUNT 0 has another op than STOP's. -/
theorem assembledCommandsDecode : Obligations.AssembledCommandsDecode := by
  refine ⟨fun c v hc hv => ?_, fun n hn => ?_, fun d m => ?_, ?_, fun _ => rfl, fun p q => ?_⟩
  · obtain ⟨events, word⟩ := commandEvents_of_encode (i := .write c v) (by simp [Instr.wf, hc, hv]) rfl
    refine ⟨_, ?_, rfl, word⟩
    rw [Statement.events, apiWrite, saturate16_of_inS16 hc, saturate16_of_inS16 hv, events]
  · obtain ⟨events, word⟩ := commandEvents_of_encode (i := .setcount n) hn rfl
    refine ⟨_, ?_, rfl, word⟩
    rw [Statement.events, apiSetActiveChannelCount, saturate16_of_inS16 hn, events]
  · obtain ⟨events, word⟩ := commandEvents_of_encode (i := .configpins d m) rfl rfl
    exact ⟨_, events, rfl, word⟩
  · obtain ⟨events, word⟩ := commandEvents_of_encode (i := .stop) rfl rfl
    refine ⟨_, events, rfl, word, ?_⟩
    decide
  · exact List.flatMap_append

/-! ### The API spellings -/

/-- The three calls and no other name (R107). -/
theorem apiMnemonic_eq_some {name mnemonic : List Char} : apiMnemonic name = some mnemonic ↔
    (name = ['w', 'r', 'i', 't', 'e'] ∧ mnemonic = ['W', 'R', 'I', 'T', 'E']) ∨
    (name = ['s', 'e', 't', 'A', 'c', 't', 'i', 'v', 'e', 'C', 'h', 'a', 'n', 'n', 'e', 'l', 'C', 'o', 'u',
      'n', 't'] ∧
      mnemonic = ['S', 'E', 'T', 'C', 'O', 'U', 'N', 'T']) ∨
    (name = ['c', 'o', 'n', 'f', 'i', 'g', 'u', 'r', 'e', 'P', 'i', 'n', 's'] ∧
      mnemonic = ['C', 'O', 'N', 'F', 'I', 'G', 'P', 'I', 'N', 'S']) := by
  constructor
  · intro h
    unfold apiMnemonic at h
    split_ifs at h with write setcount configpins
    · exact .inl ⟨write, (Option.some.inj h).symm⟩
    · exact .inr (.inl ⟨setcount, (Option.some.inj h).symm⟩)
    · exact .inr (.inr ⟨configpins, (Option.some.inj h).symm⟩)
  · rintro (⟨rfl, rfl⟩ | ⟨rfl, rfl⟩ | ⟨rfl, rfl⟩) <;> rfl

/-- A name of the API or its mnemonic is a non-empty text of letters; what the line's reader looks for. -/
structure IsWord (word : List Char) : Prop where
  nonempty : word ≠ []
  noBlank : ∀ x ∈ word, isBlank x = false
  noComment : ';' ∉ word
  noCall : '(' ∉ word

theorem apiMnemonic_words {name mnemonic : List Char} (h : apiMnemonic name = some mnemonic) :
    IsWord name ∧ IsWord mnemonic ∧ ∀ x ∈ mnemonic, x.isUpper = true := by
  rcases apiMnemonic_eq_some.mp h with ⟨rfl, rfl⟩ | ⟨rfl, rfl⟩ | ⟨rfl, rfl⟩ <;>
    exact ⟨⟨by simp, by simp [isBlank], by simp, by simp⟩, ⟨by simp, by simp [isBlank], by simp, by simp⟩,
      List.all_eq_true.mp rfl⟩

/-- A line that begins with a word and has no comment is its statement's text. -/
theorem parseLine_word {word rest : List Char} (w : IsWord word) (h : ';' ∉ rest) :
    parseLine (word ++ rest) = (parseStatement (word ++ rest)).map fun statement => [statement] := by
  obtain ⟨c, cs, rfl⟩ := List.exists_cons_of_ne_nil w.nonempty
  refine parseLine_statement (w.noBlank c (by simp)) ?_
  have := w.noComment
  simp_all

/-- A call reads as its mnemonic with the text between the parentheses (R107). -/
theorem parseLine_call {name mnemonic operands : List Char} (h : apiMnemonic name = some mnemonic)
    (comment : ';' ∉ operands) :
    parseLine (name ++ '(' :: (operands ++ [')'])) =
      ((parseOperands operands).bind (makeStatement mnemonic)).map fun statement => [statement] := by
  obtain ⟨word, -⟩ := apiMnemonic_words h
  have split := splitStatement_call word.noCall (by rwa [trimBlanks_of_no_blank word.noBlank]) operands
  rw [parseLine_word word (by simp [comment])]
  simp only [parseStatement, split, Option.bind_eq_bind, Option.bind_some]

/-- A command line reads as its mnemonic with the text behind it (R106). -/
theorem parseLine_mnemonic {name mnemonic operands : List Char} (h : apiMnemonic name = some mnemonic)
    (comment : ';' ∉ operands) (call : '(' ∉ operands) :
    parseLine (mnemonic ++ ' ' :: operands) =
      ((parseOperands operands).bind (makeStatement mnemonic)).map fun statement => [statement] := by
  obtain ⟨-, word, upper⟩ := apiMnemonic_words h
  have split := splitStatement_mnemonic upper call
  rw [parseLine_word word (by simp [comment])]
  simp only [parseStatement, split, Option.bind_eq_bind, Option.bind_some, parseOperands_cons (c := ' ') rfl]

/-- The text of an integer has no comment in it. -/
theorem no_comment_of_parseInt {cs : List Char} {v : Int} (h : parseInt cs = some v) : ';' ∉ cs := fun mem =>
  (integer_char ((parseInt_chars h).2 _ mem)).2.2.1 rfl

theorem pinOperand_toNat (p : Pin) : pinOperand (p.toNat : Int) = some p := by
  have := p.isLt
  rw [pinOperand, if_pos (by omega), BitVec.ofInt_natCast, BitVec.ofNat_toNat, BitVec.setWidth_eq]

theorem s16Operand_of_inS16 {v : Int} (h : inS16 v = true) : s16Operand v = some v := by
  simp [s16Operand, h]

/-- Settles O10: both spellings read as the mnemonic with the operands' text, and texts of integers in range make the
statement. -/
theorem apiSpellingsAreSynonyms : Obligations.ApiSpellingsAreSynonyms := by
  refine ⟨fun _ _ => apiMnemonic_eq_some, fun name mnemonic operands h clean => ?_, fun a b c v ha hb hc hv => ?_,
    fun a n ha hn => ?_, fun a b d m ha hb => ?_⟩
  · have comment : ';' ∉ operands := fun mem => (clean _ mem).1 rfl
    have call : '(' ∉ operands := fun mem => (clean _ mem).2 rfl
    rw [parseLine_call h comment, parseLine_mnemonic h comment call]
  · have comment : ';' ∉ a ++ ',' :: b := by simp [no_comment_of_parseInt ha, no_comment_of_parseInt hb]
    rw [show a ++ ',' :: b ++ [')'] = (a ++ ',' :: b) ++ [')'] from rfl, parseLine_call rfl comment,
      parseOperands_pair ha hb]
    simp [makeStatement, s16Operand_of_inS16 hc, s16Operand_of_inS16 hv]
  · rw [parseLine_call rfl (no_comment_of_parseInt ha), parseOperands_single ha]
    simp [makeStatement, s16Operand_of_inS16 hn]
  · have comment : ';' ∉ a ++ ',' :: b := by simp [no_comment_of_parseInt ha, no_comment_of_parseInt hb]
    rw [show a ++ ',' :: b ++ [')'] = (a ++ ',' :: b) ++ [')'] from rfl, parseLine_call rfl comment,
      parseOperands_pair ha hb]
    simp [makeStatement, pinOperand_toNat]

end Sys2Proof.Machine
end

section
/-! PROOFS. The micro-steps of an operation in a row are the operation (20_memory.md R70): ENGINE's units, ADVANCE and
SEND_BYTE, the whole invocation of a tick, and HOST's commands and procedures. From these, one induction over a step. -/

namespace Sys2Proof.Machine

/-! ### Engine operations -/

/-- The operation ENGINE is at the start of, with the budget check of its unit passed (30_encoding.md R104). -/
theorem engineSelected_cases {s : State} {i : Instr} (h : engineSelected s = some i) :
    (s.enginePos = .l0 ∧ s.ts = 0 ∧ frameStartCost ≤ s.budget ∧ i = .frameStart) ∨
    (s.enginePos = .l0 ∧ s.ts ≠ 0 ∧ slotCost ≤ s.budget ∧ i = .channelSlot) ∨
    (s.enginePos = .f3 ∧ i = .sendByte startCode s.dataPinAct) ∨
    (∃ b, s.enginePos = .s3 b ∧ i = .sendByte b s.dataPinAct) ∨
    (s.enginePos = .a0 ∧ i = .advance) := by
  unfold engineSelected at h
  split at h
  · split_ifs at h with ts budget budget <;> cases h
    · exact .inl ⟨‹_›, ts, Nat.not_lt.mp budget, rfl⟩
    · exact .inr (.inl ⟨‹_›, ts, Nat.not_lt.mp budget, rfl⟩)
  all_goals cases h
  · exact .inr (.inr (.inl ⟨‹_›, rfl⟩))
  · exact .inr (.inr (.inr (.inl ⟨_, ‹_›, rfl⟩)))
  · exact .inr (.inr (.inr (.inr ⟨‹_›, rfl⟩)))

theorem engineOperation_selected {s : State} {i : Instr} (h : engineSelected s = some i) :
    engineOperation s = andThen (exec i s) fun t => .next (afterEngineOp t) := by
  simp only [engineOperation, h]

theorem engineOperation_unselected {s : State} (h : engineSelected s = none) : engineOperation s = engineMicro s := by
  simp only [engineOperation, h]

/-- Only SEND_BYTE leaves the position for its caller to set. -/
theorem afterEngineOp_eq_self {s : State} (frame : s.enginePos ≠ .f3) (slot : ∀ b, s.enginePos ≠ .s3 b) :
    afterEngineOp s = s := by
  unfold afterEngineOp
  split
  · exact absurd ‹_› frame
  · exact absurd ‹_› (slot _)
  · rfl

/-- Settles O50, by the operation ENGINE is at the start of. -/
theorem engineMicroStepsAreTheOperation : Obligations.EngineMicroStepsAreTheOperation := by
  intro s i h
  rw [engineOperation_selected h]
  rcases engineSelected_cases h with ⟨pos, ts, budget, rfl⟩ | ⟨pos, ts, budget, rfl⟩ | ⟨pos, rfl⟩ | ⟨b, pos, rfl⟩ |
    ⟨pos, rfl⟩
  · have unit := engineRun_frame 0 pos ts budget
    have answer : exec .frameStart s = _ := execFrameStart_commits budget
    rw [execFrameStart_commits budget] at unit
    rw [answer]
    exact unit
  · have unit := engineRun_slot 0 pos ts budget
    have answer : exec .channelSlot s = _ := execChannelSlot_sends budget
    rw [execChannelSlot_sends budget] at unit
    rw [answer]
    exact unit
  · rw [exec_sendByte, andThen_next, ← transmit_eq]
    have call := engineRun_call 0 (engineMicro_f3 pos)
    simp only [afterEngineOp, transmit_enginePos, pos]
    exact call
  · rw [exec_sendByte, andThen_next, ← transmit_eq]
    have call := engineRun_call 0 (engineMicro_s3 pos)
    simp only [afterEngineOp, transmit_enginePos, pos]
    exact call
  · have stay : afterEngineOp (advanceTo (s.ts + 1) s) = advanceTo (s.ts + 1) s := by
      rcases advanceTo_position (s.ts + 1) s with x0 | ⟨l0, -⟩
      · exact afterEngineOp_eq_self (by simp [x0]) (by simp [x0])
      · exact afterEngineOp_eq_self (by simp [l0]) (by simp [l0])
    rw [exec_advance, andThen_next, stay]
    exact engineRun_advance 0 pos

/-! ### The handler loop -/

/-- A round of the loop whose unit is deferred. -/
theorem handlerLoop_of_deferred (fuel : Nat) {s t : State} (unit : performUnit s = .next t) (pos : t.enginePos = .x0) :
    handlerLoop (fuel + 1) s = .next t := by
  simp [handlerLoop, unit, unlessStopped, pos]

/-- A round of the loop whose unit is performed: its ADVANCE, and the loop again unless that ended the frame. -/
theorem handlerLoop_of_performed (fuel : Nat) {s t : State} (unit : performUnit s = .next t)
    (pos : t.enginePos = .a0) :
    handlerLoop (fuel + 1) s = unlessStopped (advanceTo (t.ts + 1) t) (handlerLoop fuel) := by
  simp [handlerLoop, unit, unlessStopped, pos, execAdvance]

/-- The unit at L0, whole and in micro-steps: deferred by the selection, or sixteen micro-steps that charge at least
the cheaper unit's cost. -/
theorem performUnit_micro {s : State} (pos : s.enginePos = .l0) : ∃ t, performUnit s = .next t ∧
    ((t.enginePos = .x0 ∧ engineMicro s = .next t) ∨
      (t.enginePos = .a0 ∧ t.budget + slotCost ≤ s.budget ∧
        ∀ k, microRun engineMicro (k + 16) s = microRun engineMicro k t)) := by
  obtain ⟨t, unit, ⟨rfl, -⟩ | ⟨a0, charged⟩⟩ := performUnit_answers s
  · refine ⟨_, unit, .inl ⟨rfl, ?_⟩⟩
    by_cases ts : s.ts = 0
    · rw [performUnit_frame ts] at unit
      by_cases budget : s.budget < frameStartCost
      · simp [engineMicro, pos, selectUnit, ts, budget]
      · rw [execFrameStart_commits (Nat.not_lt.mp budget)] at unit
        cases congrArg State.enginePos (Host.Outcome.next.inj unit)
    · rw [performUnit_slot ts] at unit
      by_cases budget : s.budget < slotCost
      · simp [engineMicro, pos, selectUnit, ts, budget]
      · rw [execChannelSlot_sends (Nat.not_lt.mp budget)] at unit
        cases congrArg State.enginePos (Host.Outcome.next.inj unit)
  · refine ⟨t, unit, .inr ⟨a0, charged, fun k => ?_⟩⟩
    by_cases ts : s.ts = 0
    · rw [performUnit_frame ts] at unit
      by_cases budget : s.budget < frameStartCost
      · rw [execFrameStart_defers budget] at unit
        cases unit
        cases a0
      · rw [engineRun_frame k pos ts (Nat.not_lt.mp budget), unit, andThen_next]
    · rw [performUnit_slot ts] at unit
      rw [engineRun_slot k pos ts (by omega), unit, andThen_next]

/-- The loop and the exit, in micro-steps: eighteen for each round the budget can pay, and one for the exit. -/
theorem engineRun_loop (k fuel : Nat) {s : State} (pos : s.enginePos = .l0) (enough : s.budget / slotCost < fuel) :
    microRun engineMicro (k + 1 + 18 * fuel) s = andThen (handlerLoop fuel s) fun t => .next (exitHandler t) := by
  induction fuel generalizing s with
  | zero => exact absurd enough (Nat.not_lt_zero _)
  | succ fuel ih =>
    obtain ⟨t, unit, ⟨x0, micro⟩ | ⟨a0, charged, micros⟩⟩ := performUnit_micro pos
    · rw [handlerLoop_of_deferred fuel unit x0, show k + 1 + 18 * (fuel + 1) = k + 18 * fuel + 17 + 1 + 1 by omega,
        engineRun_next _ micro, engineRun_exit _ x0]
      rfl
    · rw [handlerLoop_of_performed fuel unit a0, show k + 1 + 18 * (fuel + 1) = k + 1 + 18 * fuel + 2 + 16 by omega,
        micros, engineRun_advance _ a0, execAdvance, andThen_next]
      rcases advanceTo_position (t.ts + 1) t with x0 | ⟨l0, budget⟩
      · rw [unlessStopped, if_pos x0, show k + 1 + 18 * fuel = k + 18 * fuel + 1 by omega, engineRun_exit _ x0]
        rfl
      · rw [unlessStopped, if_neg (by simp [l0])]
        refine ih l0 ?_
        rw [budget]
        have := Nat.div_le_div_right (c := slotCost) charged
        rw [Nat.add_div_right _ (by decide)] at this
        omega

theorem pulseTick_of_accepted {s : State} (h : tickAccepted s = true) : pulseTick s = enterHandler s := by
  simp [pulseTick, h]

theorem exec_tick_of_accepted {s : State} (h : tickAccepted s = true) : exec .tick s = runHandler (takeTick s) := by
  simp [exec, execTick, h]

theorem exec_tick_of_dropped {s : State} (h : tickAccepted s = false) : exec .tick s = .next s := by
  simp [exec, execTick, h]

/-- Settles O51: the entry loads the budget, and the loop has eighteen micro-steps for each round that can pay for a
unit. -/
theorem tickMicroStepsAreTheTick : Obligations.TickMicroStepsAreTheTick := by
  intro s accepted
  have entry : engineMicro (enterHandler s) = .next (takeTick s) := by simp [engineMicro, takeTick]
  have split : 18 * (s.params.tickBudget / 11 + 2) = 16 + 1 + 18 * (s.params.tickBudget / slotCost + 1) + 1 := by
    simp only [slotCost]
    omega
  rw [pulseTick_of_accepted accepted, exec_tick_of_accepted accepted, split, engineRun_next _ entry]
  exact engineRun_loop 16 _ rfl (Nat.lt_succ_self _)

/-! ### Host operations -/

theorem hostRun_next (k : Nat) {s t : State} (h : hostMicro s = .next t) :
    microRun hostMicro (k + 1) s = microRun hostMicro k t := by
  rw [microRun_succ, h, andThen_next]

/-- Start, in an operation that sets the host's position in the end, does not look at the position before. -/
theorem startProcedure_position (s : State) (p q : HostPos) :
    andThen (startProcedure (s.setHostPos p)) (fun t => .next (t.setHostPos q)) =
      andThen (startProcedure s) fun t => .next (t.setHostPos q) := by
  rw [startProcedure_setHostPos, andThen_assoc]
  rfl

theorem startIfStopped_position (s : State) (p q : HostPos) :
    andThen (startIfStopped (s.setHostPos p)) (fun t => .next (t.setHostPos q)) =
      andThen (startIfStopped s) fun t => .next (t.setHostPos q) := by
  rw [startIfStopped_setHostPos, andThen_assoc]
  rfl

/-- W3 and C2: Start in micro-steps if the block is stopped. -/
theorem hostRun_startIfStopped (k : Nat) {s : State}
    (h : hostMicro s = .next (s.setHostPos (if s.started then .idle else .st1))) :
    microRun hostMicro (k + 7) s = andThen (startIfStopped s) fun t => .next (t.setHostPos .idle) := by
  rw [show k + 7 = k + 6 + 1 from rfl, hostRun_next _ h]
  cases started : s.started
  · rw [startIfStopped_stopped started, if_neg (by decide), hostRun_start k rfl, startProcedure_position]
  · rw [startIfStopped_started started, if_pos rfl, hostRun_idle _ rfl]
    rfl

/-- Stop: its three micro-steps. -/
theorem hostRun_stop (k : Nat) {s : State} {thenStart : Bool} (h : s.hostPos = .sp1 thenStart) :
    microRun hostMicro (k + 3) s = microRun hostMicro k ((stopProcedure s).setHostPos (afterStop thenStart)) := by
  rw [show k + 3 = k + 2 + 1 from rfl,
    hostRun_next _ (t := (s.setTickEn false).setHostPos (.sp2 thenStart)) (by simp only [hostMicro, h]),
    hostRun_next (k + 1) rfl, hostRun_next k rfl]
  rfl

/-- Restart: Stop and Start in micro-steps. -/
theorem hostRun_restart (k : Nat) {s : State} (h : s.hostPos = .sp1 true) :
    microRun hostMicro (k + 9) s = andThen (execRestart s) fun t => .next (t.setHostPos .idle) := by
  rw [show k + 9 = k + 6 + 3 from rfl, hostRun_stop _ h, hostRun_start k rfl, startProcedure_position]
  rfl

/-- WRITE: its micro-steps. -/
theorem hostRun_write (k : Nat) {s : State} {c v : Int} (h : s.hostPos = .w0 c v) :
    microRun hostMicro (k + 10) s = andThen (execWrite c v s) fun t => .next (t.setHostPos .idle) := by
  have w0 : hostMicro s = .next (s.setHostPos (if channelIgnored c s then .idle else .w1 c v)) := by
    simp only [hostMicro, h]
  rw [show k + 10 = k + 9 + 1 from rfl, hostRun_next _ w0]
  by_cases ignored : channelIgnored c s = true
  · rw [if_pos ignored, hostRun_idle _ rfl, execWrite, if_pos ignored]
    rfl
  · have inside : 0 ≤ c - 1 ∧ c - 1 < s.params.n := by
      rw [channelIgnored_eq_true] at ignored
      omega
    have w1 : hostMicro (s.setHostPos (.w1 c v)) =
        .next ((s.setBuf (cellWrite s.buf (c - 1).toNat (clampValue v))).setHostPos (.w2 c)) := by
      simp only [hostMicro, State.setHostPos_hostPos, writeStore]
      rw [memWrite_inside (s := s.setHostPos (.w1 c v)) _ inside]
      rfl
    have raise : writeRaise c ((s.setBuf (cellWrite s.buf (c - 1).toNat (clampValue v))).setHostPos (.w2 c)) =
      (writeRaise c (s.setBuf (cellWrite s.buf (c - 1).toNat (clampValue v)))).setHostPos (.w2 c) := rfl
    rw [if_neg ignored, show k + 9 = k + 8 + 1 from rfl, hostRun_next _ w1, show k + 8 = k + 7 + 1 from rfl,
      hostRun_next _ rfl, hostRun_startIfStopped k rfl, startIfStopped_position, raise, startIfStopped_position,
      execWrite, if_neg ignored, writeStore, memWrite_inside _ inside, andThen_next]

/-- SETCOUNT: its micro-steps. -/
theorem hostRun_setcount (k : Nat) {s : State} {n : Int} (h : s.hostPos = .c0 n) :
    microRun hostMicro (k + 9) s = andThen (execSetcount n s) fun t => .next (t.setHostPos .idle) := by
  have c0 : hostMicro s = .next (s.setHostPos (if n ≤ 0 then .sp1 false else .c1 n)) := by
    simp only [hostMicro, h]
  rw [show k + 9 = k + 8 + 1 from rfl, hostRun_next _ c0]
  by_cases stop : n ≤ 0
  · rw [if_pos stop, show k + 8 = k + 5 + 3 from rfl, hostRun_stop _ rfl, hostRun_idle _ rfl, execSetcount_stops stop]
    rfl
  · have count : setCountTo n (s.setHostPos (.c1 n)) = (setCountTo n s).setHostPos (.c1 n) := rfl
    rw [if_neg stop, show k + 8 = k + 7 + 1 from rfl, hostRun_next _ rfl, hostRun_startIfStopped k rfl,
      startIfStopped_position, count, startIfStopped_position, execSetcount, if_neg stop]

theorem hostMicro_p3 {s : State} {changed : Bool} (h : s.hostPos = .p3 changed) :
    hostMicro s = .next (s.setHostPos (if pinChangeRestarts changed s then .sp1 true else .idle)) := by
  simp only [hostMicro, h]

/-- CONFIGPINS: its micro-steps. -/
theorem hostRun_configpins (k : Nat) {s : State} {d m : Pin} (h : s.hostPos = .p0 d m) :
    microRun hostMicro (k + 13) s = andThen (execConfigpins d m s) fun t => .next (t.setHostPos .idle) := by
  have p0 : hostMicro s = .next (s.setHostPos (.p1 d m (pinsChange d m s))) := by
    simp only [hostMicro, h]
  rw [show k + 13 = k + 12 + 1 from rfl, hostRun_next _ p0, show k + 12 = k + 11 + 1 from rfl, hostRun_next _ rfl,
    show k + 11 = k + 10 + 1 from rfl, hostRun_next _ rfl, show k + 10 = k + 9 + 1 from rfl,
    hostRun_next _ (hostMicro_p3 rfl)]
  by_cases restarts : pinChangeRestarts (pinsChange d m s) ((s.setDataPinCfg d).setMarkerPinCfg m) = true
  · simp only [execConfigpins]
    rw [if_pos restarts, if_pos (by exact restarts), hostRun_restart k rfl]
    exact startProcedure_position (stopProcedure ((s.setDataPinCfg d).setMarkerPinCfg m)) _ _
  · simp only [execConfigpins]
    rw [if_neg restarts, if_neg (by exact restarts), hostRun_idle _ rfl]
    rfl

/-- The operation or procedure HOST is at the start of. -/
theorem hostSelected_cases {s : State} {i : Instr} (h : hostSelected s = some i) :
    (∃ c v, s.hostPos = .w0 c v ∧ i = .write c v) ∨ (∃ n, s.hostPos = .c0 n ∧ i = .setcount n) ∨
    (∃ d m, s.hostPos = .p0 d m ∧ i = .configpins d m) ∨ (s.hostPos = .st1 ∧ i = .startProc) ∨
    (s.hostPos = .sp1 false ∧ i = .stopProc) ∨ (s.hostPos = .sp1 true ∧ i = .restart) := by
  unfold hostSelected at h
  split at h <;> cases h <;> simp_all

theorem hostOperation_selected {s : State} {i : Instr} (h : hostSelected s = some i) :
    hostOperation s = andThen (exec i s) fun t => .next (t.setHostPos .idle) := by
  simp only [hostOperation, h]

theorem hostOperation_unselected {s : State} (h : hostSelected s = none) : hostOperation s = hostMicro s := by
  simp only [hostOperation, h]

/-- Settles O49, by the operation HOST is at the start of. -/
theorem hostMicroStepsAreTheOperation : Obligations.HostMicroStepsAreTheOperation := by
  intro s i h
  rw [hostOperation_selected h]
  rcases hostSelected_cases h with ⟨c, v, pos, rfl⟩ | ⟨n, pos, rfl⟩ | ⟨d, m, pos, rfl⟩ | ⟨pos, rfl⟩ | ⟨pos, rfl⟩ |
    ⟨pos, rfl⟩
  · exact hostRun_write 3 pos
  · exact hostRun_setcount 4 pos
  · exact hostRun_configpins 0 pos
  · exact hostRun_start 7 pos
  · rw [hostRun_stop 10 pos, hostRun_idle _ rfl]
    rfl
  · exact hostRun_restart 4 pos

end Sys2Proof.Machine
end

section
/-! PROOFS. The access rights of 10_state.md R40 as two relations, what ENGINE and what HOST leave as it was, and one
induction over a step: what the micro-steps of both agents keep, every step keeps. -/

namespace Sys2Proof.Machine

/-! ### What each agent leaves as it was -/

/-- The operations of ENGINE: the invocation of a tick and what it is made of. -/
def OfEngine (i : Instr) : Prop :=
  i = .tick ∨ i = .frameStart ∨ i = .channelSlot ∨ (∃ v p, i = .sendByte v p) ∨ i = .advance

/-- The operations of HOST: its commands and the procedures they call. -/
def OfHost (i : Instr) : Prop :=
  (∃ c v, i = .write c v) ∨ (∃ n, i = .setcount n) ∨ (∃ d m, i = .configpins d m) ∨ i = .stop ∨ i = .startProc ∨
    i = .stopProc ∨ i = .restart

/-- What ENGINE never writes; TRACE it appends to. -/
structure EngineKeeps (s t : State) : Prop where
  params : t.params = s.params
  buf : t.buf = s.buf
  acc : t.acc = s.acc
  started : t.started = s.started
  tickEn : t.tickEn = s.tickEn
  dataPinCfg : t.dataPinCfg = s.dataPinCfg
  markerPinCfg : t.markerPinCfg = s.markerPinCfg
  dataPinAct : t.dataPinAct = s.dataPinAct
  markerPinAct : t.markerPinAct = s.markerPinAct
  hostPos : t.hostPos = s.hostPos
  schedule : t.schedule = s.schedule
  trace : s.trace <+: t.trace

/-- What HOST never writes; TRACE it appends to. -/
structure HostKeeps (s t : State) : Prop where
  params : t.params = s.params
  budget : t.budget = s.budget
  txb : t.txb = s.txb
  guard : t.guard = s.guard
  irqMask : t.irqMask = s.irqMask
  enginePos : t.enginePos = s.enginePos
  strayReads : t.strayReads = s.strayReads
  schedule : t.schedule = s.schedule
  trace : s.trace <+: t.trace

theorem EngineKeeps.refl (s : State) : EngineKeeps s s := by
  constructor <;> simp

theorem EngineKeeps.trans {s t u : State} (h : EngineKeeps s t) (k : EngineKeeps t u) : EngineKeeps s u where
  params := k.params.trans h.params
  buf := k.buf.trans h.buf
  acc := k.acc.trans h.acc
  started := k.started.trans h.started
  tickEn := k.tickEn.trans h.tickEn
  dataPinCfg := k.dataPinCfg.trans h.dataPinCfg
  markerPinCfg := k.markerPinCfg.trans h.markerPinCfg
  dataPinAct := k.dataPinAct.trans h.dataPinAct
  markerPinAct := k.markerPinAct.trans h.markerPinAct
  hostPos := k.hostPos.trans h.hostPos
  schedule := k.schedule.trans h.schedule
  trace := h.trace.trans k.trace

theorem HostKeeps.refl (s : State) : HostKeeps s s := by
  constructor <;> simp

theorem HostKeeps.trans {s t u : State} (h : HostKeeps s t) (k : HostKeeps t u) : HostKeeps s u where
  params := k.params.trans h.params
  budget := k.budget.trans h.budget
  txb := k.txb.trans h.txb
  guard := k.guard.trans h.guard
  irqMask := k.irqMask.trans h.irqMask
  enginePos := k.enginePos.trans h.enginePos
  strayReads := k.strayReads.trans h.strayReads
  schedule := k.schedule.trans h.schedule
  trace := h.trace.trans k.trace

/-! ### ENGINE -/

theorem advanceTo_keeps (n : Nat) (s : State) : EngineKeeps s (advanceTo n s) := by
  by_cases past : s.acc < n
  · rw [advanceTo_ends past]
    constructor <;> simp
  · rw [advanceTo_goes_on (Nat.not_lt.mp past)]
    constructor <;> simp

theorem sendMicro_keeps (p : SendPos) (pin : Pin) (s : State) : EngineKeeps s (sendMicro p pin s) := by
  cases p <;> constructor <;> simp [sendMicro, sendStartBit, sendDataBit, sendStopBits, sendRelease]

theorem selectUnit_eq (s : State) : ∃ p, selectUnit s = s.setEnginePos p := by
  unfold selectUnit stopHandler
  split_ifs <;> exact ⟨_, rfl⟩

/-- ENGINE's micro-steps never stop. -/
theorem engineMicro_answers (s : State) : ∃ t, engineMicro s = .next t := by
  unfold engineMicro
  split <;> exact ⟨_, rfl⟩

theorem setEnginePos_keeps (s : State) (p : EnginePos) : EngineKeeps s (s.setEnginePos p) := by
  constructor <;> simp

/-- ENGINE's micro-steps have its access rights (R40). -/
theorem engineMicro_keeps {s t : State} (e : engineMicro s = .next t) : EngineKeeps s t := by
  cases pos : s.enginePos <;> simp only [engineMicro, pos] at e <;> cases e
  case idle => exact .refl _
  case l0 =>
    obtain ⟨p, select⟩ := selectUnit_eq s
    exact select ▸ setEnginePos_keeps s p
  case send p pin caller => exact (sendMicro_keeps p pin s).trans (setEnginePos_keeps _ _)
  case a1 => exact advanceTo_keeps _ s
  all_goals constructor <;> simp [frameBreak, frameMark, frameCharge, slotCharge, sendLatch, slotRead]

theorem microRun_engine_keeps {k : Nat} {s t : State} (e : microRun engineMicro k s = .next t) : EngineKeeps s t :=
  microRun_keeps (P := EngineKeeps s) (fun _ _ h step => h.trans (engineMicro_keeps step)) k s t (.refl s) e

theorem microRun_engine_answers (k : Nat) (s : State) : ∃ t, microRun engineMicro k s = .next t := by
  induction k generalizing s with
  | zero => exact ⟨s, rfl⟩
  | succ k ih =>
    obtain ⟨t, e⟩ := engineMicro_answers s
    rw [engineRun_next k e]
    exact ih t

theorem enterHandler_keeps (s : State) : EngineKeeps s (enterHandler s) := by
  constructor <;> simp

theorem pulseTick_keeps (s : State) : EngineKeeps s (pulseTick s) := by
  unfold pulseTick
  split
  · exact enterHandler_keeps s
  · exact .refl s

/-- A tick as micro-steps of ENGINE, whether it is accepted or not. -/
theorem exec_tick_micro (s : State) : ∃ k, exec .tick s = microRun engineMicro k (pulseTick s) := by
  cases accepted : tickAccepted s
  · refine ⟨0, (exec_tick_of_dropped accepted).trans ?_⟩
    simp [microRun, pulseTick, accepted]
  · exact ⟨_, (tickMicroStepsAreTheTick s accepted).symm⟩

/-- The operations of ENGINE have its access rights (R40). -/
theorem exec_engine_keeps {i : Instr} {s t : State} (h : OfEngine i) (e : exec i s = .next t) : EngineKeeps s t := by
  rcases h with rfl | rfl | rfl | ⟨v, p, rfl⟩ | rfl
  · obtain ⟨k, micro⟩ := exec_tick_micro s
    exact (pulseTick_keeps s).trans (microRun_engine_keeps (micro.symm.trans e))
  · change execFrameStart s = .next t at e
    by_cases budget : s.budget < frameStartCost
    · rw [execFrameStart_defers budget] at e
      cases e
      exact setEnginePos_keeps s .x0
    · rw [execFrameStart_commits (Nat.not_lt.mp budget)] at e
      cases e
      constructor <;> simp
  · change execChannelSlot s = .next t at e
    by_cases budget : s.budget < slotCost
    · rw [execChannelSlot_defers budget] at e
      cases e
      exact setEnginePos_keeps s .x0
    · rw [execChannelSlot_sends (Nat.not_lt.mp budget)] at e
      cases e
      constructor <;> simp
  · rw [exec_sendByte] at e
    cases e
    constructor <;> simp
  · rw [exec_advance] at e
    cases e
    exact advanceTo_keeps _ s

/-! ### HOST -/

/-- Start leaves what HOST never writes, and the buffer, the count and the configured pins. -/
theorem startProcedure_keeps {s t : State} (e : startProcedure s = .next t) :
    HostKeeps s t ∧ t.buf = s.buf ∧ t.acc = s.acc ∧ t.dataPinCfg = s.dataPinCfg ∧ t.markerPinCfg = s.markerPinCfg := by
  rw [startProcedure_eq] at e
  split_ifs at e
  cases e
  exact ⟨by constructor <;> simp, rfl, rfl, rfl, rfl⟩

theorem startIfStopped_keeps {s t : State} (e : startIfStopped s = .next t) :
    HostKeeps s t ∧ t.buf = s.buf ∧ t.acc = s.acc ∧ t.dataPinCfg = s.dataPinCfg ∧ t.markerPinCfg = s.markerPinCfg := by
  cases started : s.started
  · exact startProcedure_keeps ((startIfStopped_stopped started).symm.trans e)
  · rw [startIfStopped_started started] at e
    cases e
    exact ⟨.refl s, rfl, rfl, rfl, rfl⟩

/-- Whether CONFIGPINS restarts the block. -/
theorem configpins_cases (d m : Pin) (s : State) :
    (s.params.pinChangeRestart = true ∧ s.started = true ∧ pinsChange d m s = true) ∨
      (s.params.pinChangeRestart = false ∨ s.started = false ∨ pinsChange d m s = false) := by
  cases s.params.pinChangeRestart <;> cases s.started <;> cases pinsChange d m s <;> simp

/-- The commands and procedures of HOST have its access rights (R40), and WRITE alone stores. -/
theorem exec_host_keeps {i : Instr} {s t : State} (h : OfHost i) (e : exec i s = .next t) :
    HostKeeps s t ∧ ((∀ c v, i ≠ .write c v) → t.buf = s.buf) := by
  have stopped : HostKeeps s (stopProcedure s) := by constructor <;> simp
  have restarted : ∀ u t, execRestart u = .next t → HostKeeps u t ∧ t.buf = u.buf := fun u t e => by
    obtain ⟨starts, buf, -⟩ := startProcedure_keeps e
    exact ⟨.trans (by constructor <;> simp) starts, buf⟩
  rcases h with ⟨c, v, rfl⟩ | ⟨n, rfl⟩ | ⟨d, m, rfl⟩ | rfl | rfl | rfl | rfl
  · refine ⟨?_, fun other => absurd rfl (other c v)⟩
    change execWrite c v s = .next t at e
    by_cases channel : 1 ≤ c ∧ c ≤ s.params.n
    · rw [execWrite_inside channel.1 channel.2] at e
      exact .trans (by constructor <;> simp) (startIfStopped_keeps e).1
    · rw [execWrite_outside (by omega)] at e
      cases e
      exact .refl s
  · by_cases stop : n ≤ 0
    · rw [exec_setcount_of_nonpos stop] at e
      cases e
      exact ⟨stopped, fun _ => rfl⟩
    · rw [exec_setcount_of_pos (by omega)] at e
      obtain ⟨starts, buf, -⟩ := startIfStopped_keeps e
      exact ⟨.trans (by constructor <;> simp) starts, fun _ => buf⟩
  · change execConfigpins d m s = .next t at e
    rcases configpins_cases d m s with ⟨param, started, change⟩ | stores
    · rw [execConfigpins_restarts param started change] at e
      obtain ⟨starts, buf⟩ := restarted _ _ e
      exact ⟨.trans (by constructor <;> simp) starts, fun _ => buf⟩
    · rw [execConfigpins_stores stores] at e
      cases e
      exact ⟨by constructor <;> simp, fun _ => rfl⟩
  · cases e
    exact ⟨stopped, fun _ => rfl⟩
  · obtain ⟨starts, buf, -⟩ := startProcedure_keeps e
    exact ⟨starts, fun _ => buf⟩
  · cases e
    exact ⟨stopped, fun _ => rfl⟩
  · obtain ⟨starts, buf⟩ := restarted s t e
    exact ⟨starts, fun _ => buf⟩

/-- ST1 in the pins it latches. -/
theorem startLatch_eq_next {s t : State} : startLatch s = .next t ↔
    s.dataPinCfg ≠ s.markerPinCfg ∧ t = (s.setDataPinAct s.dataPinCfg).setMarkerPinAct s.markerPinCfg := by
  unfold startLatch
  split_ifs with same <;> simp [same, @eq_comm _ t]

/-- HOST's micro-steps have its access rights (R40). -/
theorem hostMicro_keeps {s t : State} (e : hostMicro s = .next t) : HostKeeps s t := by
  cases pos : s.hostPos <;> simp only [hostMicro, pos] at e
  case idle =>
    cases e
    exact .refl s
  case w1 =>
    obtain ⟨u, store, move⟩ := andThen_eq_next.mp e
    obtain ⟨-, rfl⟩ := memWrite_eq_next.mp store
    cases move
    constructor <;> simp
  case st1 =>
    obtain ⟨u, latch, move⟩ := andThen_eq_next.mp e
    obtain ⟨-, rfl⟩ := startLatch_eq_next.mp latch
    cases move
    constructor <;> simp
  all_goals
    cases e
    constructor <;> simp [writeRaise, setCountTo, startData, startMarker]

theorem microRun_host_keeps {k : Nat} {s t : State} (e : microRun hostMicro k s = .next t) : HostKeeps s t :=
  microRun_keeps (P := HostKeeps s) (fun _ _ h step => h.trans (hostMicro_keeps step)) k s t (.refl s) e

/-- Settles O31: ENGINE's operations and micro-steps have its access rights, HOST's have its own. -/
theorem accessRights : Obligations.AccessRights := by
  refine ⟨fun i s t h e => ?_, fun s t e => ?_, fun i s t h e => ?_, fun s t e => ?_⟩
  · have k := exec_engine_keeps h e
    exact ⟨k.buf, k.acc, k.started, k.tickEn, k.dataPinCfg, k.markerPinCfg, k.dataPinAct, k.markerPinAct⟩
  · have k := engineMicro_keeps e
    exact ⟨k.buf, k.acc, k.started, k.tickEn, k.dataPinCfg, k.markerPinCfg, k.dataPinAct, k.markerPinAct⟩
  · have k := (exec_host_keeps h e).1
    exact ⟨k.budget, k.txb, k.guard, k.irqMask, k.enginePos, k.strayReads⟩
  · have k := hostMicro_keeps e
    exact ⟨k.budget, k.txb, k.guard, k.irqMask, k.enginePos, k.strayReads⟩

/-! ### The host's position -/

/-- Every operation is ENGINE's or HOST's (00_scope.md R2). -/
theorem instr_agent (i : Instr) : OfEngine i ∨ OfHost i := by
  cases i <;> simp [OfEngine, OfHost]

/-- HOST's commands and procedures do not look at the host's position. -/
theorem exec_host_setHostPos {i : Instr} (h : OfHost i) (s : State) (p : HostPos) :
    exec i (s.setHostPos p) = andThen (exec i s) fun t => .next (t.setHostPos p) := by
  rcases h with ⟨c, v, rfl⟩ | ⟨n, rfl⟩ | ⟨d, m, rfl⟩ | rfl | rfl | rfl | rfl
  · change execWrite c v _ = andThen (execWrite c v s) _
    by_cases channel : 1 ≤ c ∧ c ≤ s.params.n
    · rw [execWrite_inside channel.1 channel.2, execWrite_inside (s := s.setHostPos p) channel.1 channel.2]
      exact startIfStopped_setHostPos
        { s with buf := cellWrite s.buf (c - 1).toNat (clampValue v), acc := max s.acc c.toNat } p
    · rw [execWrite_outside (s := s) (by omega), execWrite_outside (s := s.setHostPos p) (by
        rw [State.setHostPos_params]; omega)]
      rfl
  · by_cases stop : n ≤ 0
    · rw [exec_setcount_of_nonpos stop, exec_setcount_of_nonpos stop]
      rfl
    · rw [exec_setcount_of_pos (by omega), exec_setcount_of_pos (by omega)]
      exact startIfStopped_setHostPos { s with acc := min n.toNat s.params.n } p
  · change execConfigpins d m _ = andThen (execConfigpins d m s) _
    rcases configpins_cases d m s with ⟨param, started, change⟩ | stores
    · rw [execConfigpins_restarts param started change,
        execConfigpins_restarts (s := s.setHostPos p) param started change]
      exact startProcedure_setHostPos (stopProcedure { s with dataPinCfg := d, markerPinCfg := m }) p
    · rw [execConfigpins_stores stores, execConfigpins_stores (s := s.setHostPos p) stores]
      rfl
  · rfl
  · exact startProcedure_setHostPos s p
  · rfl
  · exact startProcedure_setHostPos (stopProcedure s) p

/-- No operation whole changes the host's position (log 23). -/
theorem exec_hostPos {i : Instr} {s t : State} (e : exec i s = .next t) : t.hostPos = s.hostPos := by
  rcases instr_agent i with engine | host
  · exact (exec_engine_keeps engine e).hostPos
  · have same := exec_host_setHostPos host s s.hostPos
    rw [show s.setHostPos s.hostPos = s from rfl, e, andThen_next] at same
    injection same with same
    exact (congrArg State.hostPos same :)

/-- Settles O30: each operation has the access rights of its agent, and of HOST's WRITE alone stores. -/
theorem onlyWriteStores : Obligations.OnlyWriteStores := by
  intro i s t e
  rcases instr_agent i with engine | host
  · have k := exec_engine_keeps engine e
    exact ⟨k.params, k.schedule, k.hostPos, fun _ => ⟨k.buf, fun a => memRead_congr a k.buf k.params⟩⟩
  · obtain ⟨k, buf⟩ := exec_host_keeps host e
    exact ⟨k.params, k.schedule, exec_hostPos e, fun other =>
      ⟨buf other, fun a => memRead_congr a (buf other) k.params⟩⟩

/-- Settles O32: ENGINE never writes STARTED, Stop clears it, and CONFIGPINS restarts a started block only. -/
theorem onlyWriteAndSetcountStart : Obligations.OnlyWriteAndSetcountStart := by
  intro i s t e before after
  rcases instr_agent i with engine | ⟨c, v, rfl⟩ | ⟨n, rfl⟩ | ⟨d, m, rfl⟩ | rfl | rfl | rfl | rfl
  · rw [(exec_engine_keeps engine e).started, before] at after
    cases after
  · refine .inl ⟨c, v, rfl, ?_⟩
    by_contra outside
    change execWrite c v s = .next t at e
    rw [execWrite_outside (by omega)] at e
    cases e
    simp [before] at after
  · refine .inr (.inl ⟨n, rfl, ?_⟩)
    by_contra nonpos
    rw [exec_setcount_of_nonpos (by omega)] at e
    cases e
    cases after
  · change execConfigpins d m s = .next t at e
    rw [execConfigpins_stores (.inr (.inl before))] at e
    cases e
    simp [before] at after
  · cases e
    cases after
  · exact .inr (.inr (.inl rfl))
  · cases e
    cases after
  · exact .inr (.inr (.inr rfl))

/-! ### One induction over a step -/

/-- A command word stands for an operation of HOST (30_encoding.md R92). -/
theorem ofHost_of_decode {w : CmdWord} {i : Instr} (code : decode (.formatH w) = .ok i) : OfHost i := by
  rcases decode_formatH_cases code with ⟨c, v, rfl⟩ | ⟨n, rfl⟩ | ⟨d, m, rfl⟩ | rfl <;> simp [OfHost]

/-- A command whole is its micro-steps in a row, when no other is in progress. -/
theorem exec_command_micro {w : CmdWord} {i : Instr} (code : decode (.formatH w) = .ok i) {s : State}
    (idle : s.hostPos = .idle) : exec i s = microRun hostMicro 13 (s.setHostPos (commandPos i)) := by
  have selected : ∃ j, hostSelected (s.setHostPos (commandPos i)) = some j ∧
      exec j (s.setHostPos (commandPos i)) = exec i (s.setHostPos (commandPos i)) := by
    rcases decode_formatH_cases code with ⟨c, v, rfl⟩ | ⟨n, rfl⟩ | ⟨d, m, rfl⟩ | rfl <;> exact ⟨_, rfl, rfl⟩
  obtain ⟨j, select, same⟩ := selected
  have host := exec_host_setHostPos (ofHost_of_decode code) (s.setHostPos (commandPos i)) .idle
  rw [hostMicroStepsAreTheOperation _ j select, hostOperation_selected select, same, ← host]
  congr 1
  apply State.ext <;> simp [idle]

theorem runCommand_ok {w : CmdWord} {i : Instr} (code : decode (.formatH w) = .ok i) (s : State) :
    runCommand w s = exec i s := by
  simp only [runCommand, code]

theorem beginCommand_ok {w : CmdWord} {i : Instr} (code : decode (.formatH w) = .ok i) (s : State) :
    beginCommand w s = s.setHostPos (commandPos i) := by
  simp only [beginCommand, code]

theorem microRun_one (micro : State → Result) (s : State) : microRun micro 1 s = micro s := by
  rw [microRun_succ]
  cases micro s <;> rfl

/-- An answer of a row of micro-steps of one agent: of HOST where it may step, at the position it has or that of a new
command, or of ENGINE, in the invocation it is in or that of an accepted tick. -/
inductive MicroRow (s : State) (r : Result) : Prop where
  | host (k : Nat) (may : hostMayStep s = true) (run : r = microRun hostMicro k s)
  | command (k : Nat) (may : hostMayStep s = true) (idle : s.hostPos = .idle) (w : CmdWord) (i : Instr)
      (code : decode (.formatH w) = .ok i) (run : r = microRun hostMicro k (s.setHostPos (commandPos i)))
  | engine (k : Nat) (run : r = microRun engineMicro k s)
  | tick (k : Nat) (accepted : tickAccepted s = true) (run : r = microRun engineMicro k (enterHandler s))

/-- What an admitted entry of the schedule does is a row of micro-steps of one agent. -/
theorem perform_microRow {event : Event} {s : State} (admitted : admissible event s = true) :
    MicroRow s (perform event s) := by
  cases event with
  | command w =>
    simp only [admissible, Bool.and_eq_true, decide_eq_true_eq] at admitted
    obtain ⟨may, idle⟩ := admitted
    cases code : decode (.formatH w) with
    | ok i => exact .command 13 may idle w i code ((runCommand_ok code s).trans (exec_command_micro code idle))
    | error reason => exact .engine 0 (by simp only [perform, runCommand, code, microRun])
  | present w =>
    simp only [admissible, Bool.and_eq_true, decide_eq_true_eq] at admitted
    obtain ⟨may, idle⟩ := admitted
    cases code : decode (.formatH w) with
    | ok i => exact .command 0 may idle w i code (congrArg Host.Outcome.next (beginCommand_ok code s))
    | error reason => exact .engine 0 (by simp only [perform, beginCommand, code, microRun])
  | tick =>
    cases accepted : tickAccepted s
    · exact .engine 0 (exec_tick_of_dropped accepted)
    · refine .tick (18 * (s.params.tickBudget / 11 + 2)) accepted ?_
      rw [← pulseTick_of_accepted accepted]
      exact (tickMicroStepsAreTheTick s accepted).symm
  | tickPulse =>
    cases accepted : tickAccepted s
    · exact .engine 0 (by simp [perform, pulseTick, accepted, microRun])
    · exact .tick 0 accepted (congrArg Host.Outcome.next (pulseTick_of_accepted accepted))
  | hostStep => exact .host 1 admitted (microRun_one _ s).symm
  | engineStep => exact .engine 1 (microRun_one _ s).symm
  | hostOp =>
    cases select : hostSelected s with
    | none => exact .host 1 admitted ((hostOperation_unselected select).trans (microRun_one _ s).symm)
    | some i => exact .host 13 admitted (hostMicroStepsAreTheOperation s i select).symm
  | engineOp =>
    cases select : engineSelected s with
    | none => exact .engine 1 ((engineOperation_unselected select).trans (microRun_one _ s).symm)
    | some i => exact .engine _ (engineMicroStepsAreTheOperation s i select).symm
  | others => exact .engine 0 rfl

/-- A step is a row of micro-steps of one agent, from the state with at most the head of the schedule taken off. -/
theorem step_microRow (s : State) : ∃ u, (u = s ∨ ∃ rest, u = s.setSchedule rest) ∧ MicroRow u (step s) := by
  rcases step_cases s with ⟨idle, run⟩ | ⟨-, run⟩ | ⟨event, rest, -, admitted, run⟩
  · exact ⟨s, .inl rfl, .host 1 (hostMayStep_of_idle idle) (run.trans (microRun_one _ s).symm)⟩
  · exact ⟨s, .inl rfl, .engine 1 (run.trans (microRun_one _ s).symm)⟩
  · refine ⟨s.setSchedule rest, .inr ⟨rest, rfl⟩, run ▸ perform_microRow ?_⟩
    cases event <;> exact admitted

/-- What every kind of micro-step keeps, every step keeps. -/
theorem step_keeps {P : State → Prop}
    (schedule : ∀ s rest, P s → P (s.setSchedule rest))
    (command : ∀ s w i, P s → hostMayStep s = true → s.hostPos = .idle → decode (.formatH w) = .ok i →
      P (s.setHostPos (commandPos i)))
    (tick : ∀ s, P s → tickAccepted s = true → P (enterHandler s))
    (host : ∀ s t, P s → hostMayStep s = true → hostMicro s = .next t → P t)
    (engine : ∀ s t, P s → engineMicro s = .next t → P t)
    {s t : State} (h : P s) (e : step s = .next t) : P t := by
  obtain ⟨u, from_s, row⟩ := step_microRow s
  have hu : P u := by
    rcases from_s with rfl | ⟨rest, rfl⟩
    · exact h
    · exact schedule s rest h
  have hostRun : ∀ k v, P v → hostMayStep v = true → microRun hostMicro k v = .next t → P t := fun k v hv may run => by
    refine (microRun_keeps (P := fun v => P v ∧ hostMayStep v = true) (fun v w hvw micro => ?_) k v t ⟨hv, may⟩ run).1
    refine ⟨host v w hvw.1 hvw.2 micro, ?_⟩
    obtain ⟨pos, mask, params⟩ := hostMicro_engine micro
    rw [← hvw.2, hostMayStep, hostMayStep, pos, mask, params]
  cases row with
  | host k may run => exact hostRun k u hu may (run.symm.trans e)
  | command k may idle w i code run => exact hostRun k _ (command u w i hu may idle code) may (run.symm.trans e)
  | engine k run => exact microRun_keeps engine k u t hu (run.symm.trans e)
  | tick k accepted run => exact microRun_keeps engine k _ t (tick u hu accepted) (run.symm.trans e)

/-- Settles O34: each agent's micro-steps keep the parameters and append to TRACE. -/
theorem traceOnlyGrows : Obligations.TraceOnlyGrows := by
  intro s t e
  have grown : t.params = s.params ∧ s.trace <+: t.trace := by
    refine step_keeps (P := fun u => u.params = s.params ∧ s.trace <+: u.trace) (fun _ _ h => h) (fun _ _ _ h _ _ _ => h)
      (fun _ h _ => h) (fun u v h _ micro => ?_) (fun u v h micro => ?_) ⟨rfl, List.prefix_rfl⟩ e
    · have k := hostMicro_keeps micro
      exact ⟨k.params.trans h.1, h.2.trans k.trace⟩
    · have k := engineMicro_keeps micro
      exact ⟨k.params.trans h.1, h.2.trans k.trace⟩
  obtain ⟨params, items, trace⟩ := grown
  exact ⟨params, items, trace.symm⟩

end Sys2Proof.Machine
end

section
/-! PROOFS. The invariant of 10_state.md section 9: it holds after reset, every micro-step of HOST and of ENGINE keeps
it, and so every step and every run does. What follows from it: the eight invariants, and which steps can stop. -/

namespace Sys2Proof.Machine

/-! ### HOST's micro-steps -/

/-- Where HOST may step, a change of TS is nothing a unit relies on (20_memory.md R71). -/
theorem hostMayStep_cases {s : State} (may : hostMayStep s = true) :
    s.params.concurrentHost = true ∨ s.enginePos = .idle := by
  simp only [hostMayStep, Bool.or_eq_true, Bool.and_eq_true, decide_eq_true_eq] at may
  tauto

theorem Inv.setBuf {s : State} (h : Inv s) {b : List Host.Cell} (wf : Memory.wf s.params.n b = true) :
    Inv (s.setBuf b) :=
  h.host rfl rfl rfl rfl rfl wf h.acc h.ts (.inl rfl) h.lifecycle h.operands id h.dataDriven h.markerDriven h.pinsDiffer

theorem Inv.setAcc {s : State} (h : Inv s) {n : Nat} (range : n ≤ s.params.n) : Inv (s.setAcc n) :=
  h.host rfl rfl rfl rfl rfl h.buffer range h.ts (.inl rfl) h.lifecycle h.operands id h.dataDriven h.markerDriven
    h.pinsDiffer

theorem Inv.setTs_zero {s : State} (h : Inv s) (may : hostMayStep s = true) : Inv (s.setTs 0) :=
  h.host rfl rfl rfl rfl rfl h.buffer h.acc (Nat.zero_le _) (.inr (hostMayStep_cases may)) h.lifecycle h.operands id
    h.dataDriven h.markerDriven h.pinsDiffer

theorem Inv.setDataPinCfg {s : State} (h : Inv s) (d : Pin) : Inv (s.setDataPinCfg d) :=
  h.host rfl rfl rfl rfl rfl h.buffer h.acc h.ts (.inl rfl) h.lifecycle h.operands id h.dataDriven h.markerDriven
    h.pinsDiffer

theorem Inv.setMarkerPinCfg {s : State} (h : Inv s) (m : Pin) : Inv (s.setMarkerPinCfg m) :=
  h.host rfl rfl rfl rfl rfl h.buffer h.acc h.ts (.inl rfl) h.lifecycle h.operands id h.dataDriven h.markerDriven
    h.pinsDiffer

/-- ST2 once the pins are latched: the data line is driven high. -/
theorem Inv.startData {s : State} (h : Inv s) (pos : s.hostPos = .st2) : Inv (startData s) :=
  h.host rfl rfl rfl rfl rfl h.buffer h.acc h.ts (.inl rfl) h.lifecycle h.operands (by simp [Machine.startData])
    (by simp [Machine.startData]) h.markerDriven fun _ => h.pinsDiffer (.inr pos)

/-- ST3: the marker line is driven high. -/
theorem Inv.startMarker {s : State} (h : Inv s) : Inv (startMarker s) :=
  h.host rfl rfl rfl rfl rfl h.buffer h.acc h.ts (.inl rfl) h.lifecycle h.operands id h.dataDriven
    (by simp [Machine.startMarker]) h.pinsDiffer

/-- ST1: the pins it latches differ. -/
theorem Inv.startLatch {s : State} (h : Inv s) (differ : s.dataPinCfg ≠ s.markerPinCfg) :
    Inv ((s.setDataPinAct s.dataPinCfg).setMarkerPinAct s.markerPinCfg) :=
  h.host rfl rfl rfl rfl rfl h.buffer h.acc h.ts (.inl rfl) h.lifecycle h.operands id h.dataDriven h.markerDriven
    fun _ => differ

/-- A new position of HOST, with the two flags it goes with. -/
theorem Inv.moveHost {s : State} (h : Inv s) (p : HostPos) (started tickEn : Bool)
    (life : p.lifecycleOk started tickEn = true) (operands : p.operandsOk s.params.n = true)
    (data : started = true ∨ tickEn = true ∨ p.dataDriven = true → s.dataLvl ≠ .undriven)
    (marker : started = true ∨ tickEn = true ∨ p.markerDriven = true → s.markerLvl ≠ .undriven)
    (latched : p = .st2 → s.dataPinAct ≠ s.markerPinAct) :
    Inv (((s.setStarted started).setTickEn tickEn).setHostPos p) := by
  have split : ∀ b, running (((s.setStarted started).setTickEn tickEn).setHostPos p) ∨ b = true →
      (started = true ∨ tickEn = true ∨ b = true) ∨ running s := fun b => by
    simp only [running, State.setHostPos_started, State.setTickEn_started, State.setStarted_started,
      State.setHostPos_tickEn, State.setTickEn_tickEn, State.setHostPos_enginePos, State.setTickEn_enginePos,
      State.setStarted_enginePos]
    tauto
  refine h.host rfl rfl rfl rfl rfl h.buffer h.acc h.ts (.inl rfl) life operands id (fun run => ?_) (fun run => ?_)
    (fun driven => ?_)
  · rcases split _ run with new | old
    · exact data new
    · exact h.dataDriven (.inl old)
  · rcases split _ run with new | old
    · exact marker new
    · exact h.markerDriven (.inl old)
  · rcases driven with driven | pos
    · exact h.pinsDiffer (.inl driven)
    · exact latched pos

/-- A new position of HOST outside Start's drive of the lines, the flags as they are. -/
theorem Inv.setHostPos {s : State} (h : Inv s) (p : HostPos) (life : p.lifecycleOk s.started s.tickEn = true)
    (operands : p.operandsOk s.params.n = true) (data : p.dataDriven = false) (marker : p.markerDriven = false)
    (latched : p ≠ .st2) : Inv (s.setHostPos p) := by
  refine h.moveHost p s.started s.tickEn life operands (fun run => ?_) (fun run => ?_) fun pos => absurd pos latched
  · rw [data] at run
    exact h.dataDriven (.inl (by unfold running; tauto))
  · rw [marker] at run
    exact h.markerDriven (.inl (by unfold running; tauto))

/-- W3 and C2: on to Start if the block is stopped. -/
theorem Inv.startIfStopped {s : State} (h : Inv s) (life : s.started = s.tickEn) :
    Inv (s.setHostPos (if s.started then .idle else .st1)) := by
  cases started : s.started
  · exact h.setHostPos .st1 (by simp [HostPos.lifecycleOk, ← life, started]) rfl rfl rfl (by decide)
  · exact h.setHostPos .idle (by simp [HostPos.lifecycleOk, life]) rfl rfl rfl (by decide)

/-- HOST's micro-steps keep the invariant where one may fall (20_memory.md R71). -/
theorem hostMicro_inv {s t : State} (h : Inv s) (may : hostMayStep s = true) (e : hostMicro s = .next t) : Inv t := by
  have life := h.lifecycle
  have operands := h.operands
  cases pos : s.hostPos <;> simp only [hostMicro, pos] at e <;> rw [pos] at life operands
  case idle =>
    cases e
    exact h
  case w0 c v =>
    cases e
    by_cases ignored : channelIgnored c s = true
    · rw [if_pos ignored]
      exact h.setHostPos _ life rfl rfl rfl (by decide)
    · rw [if_neg ignored]
      refine h.setHostPos _ life ?_ rfl rfl (by simp)
      rw [channelIgnored_eq_true] at ignored
      simp only [HostPos.operandsOk, Bool.and_eq_true, decide_eq_true_eq]
      omega
  case w1 c v =>
    obtain ⟨u, store, move⟩ := andThen_eq_next.mp e
    cases move
    have wf := memWrite_keeps_wf store h.buffer
    obtain ⟨-, rfl⟩ := memWrite_eq_next.mp store
    exact (h.setBuf wf).setHostPos _ life operands rfl rfl (by simp)
  case w2 c =>
    cases e
    simp only [HostPos.operandsOk, Bool.and_eq_true, decide_eq_true_eq] at operands
    have := h.acc
    exact (h.setAcc (n := max s.acc c.toNat) (by omega)).setHostPos _ life rfl rfl rfl (by decide)
  case w3 =>
    cases e
    exact h.startIfStopped (by simpa [HostPos.lifecycleOk] using life)
  case c0 n =>
    cases e
    by_cases stop : n ≤ 0
    · rw [if_pos stop]
      exact h.setHostPos _ life rfl rfl rfl (by decide)
    · rw [if_neg stop]
      refine h.setHostPos _ life ?_ rfl rfl (by simp)
      simp only [HostPos.operandsOk, decide_eq_true_eq]
      omega
  case c1 n =>
    cases e
    exact (h.setAcc (n := min n.toNat s.params.n) (Nat.min_le_right _ _)).setHostPos _ life rfl rfl rfl (by decide)
  case c2 =>
    cases e
    exact h.startIfStopped (by simpa [HostPos.lifecycleOk] using life)
  case p0 d m =>
    cases e
    exact h.setHostPos _ life rfl rfl rfl (by simp)
  case p1 d m changed =>
    cases e
    exact (h.setDataPinCfg d).setHostPos _ life rfl rfl rfl (by simp)
  case p2 m changed =>
    cases e
    exact (h.setMarkerPinCfg m).setHostPos _ life rfl rfl rfl (by simp)
  case p3 changed =>
    cases e
    by_cases restarts : pinChangeRestarts changed s = true
    · rw [if_pos restarts]
      exact h.setHostPos _ life rfl rfl rfl (by decide)
    · rw [if_neg restarts]
      exact h.setHostPos _ life rfl rfl rfl (by decide)
  case st1 =>
    obtain ⟨u, latch, move⟩ := andThen_eq_next.mp e
    cases move
    obtain ⟨differ, rfl⟩ := startLatch_eq_next.mp latch
    refine (h.startLatch differ).moveHost .st2 s.started s.tickEn life rfl ?_ ?_ fun _ => differ
    all_goals
      simp only [HostPos.lifecycleOk, Bool.and_eq_true, Bool.not_eq_true'] at life
      simp [life, HostPos.dataDriven, HostPos.markerDriven]
  case st2 =>
    cases e
    refine (h.startData pos).moveHost .st3 s.started s.tickEn life rfl (by simp [Machine.startData]) ?_ (by simp)
    simp only [HostPos.lifecycleOk, Bool.and_eq_true, Bool.not_eq_true'] at life
    simp [life, HostPos.markerDriven]
  case st3 =>
    cases e
    exact h.startMarker.moveHost .st4 s.started s.tickEn life rfl (fun _ => h.dataDriven (by simp [pos, HostPos.dataDriven]))
      (by simp [Machine.startMarker]) (by simp)
  case st4 =>
    cases e
    exact (h.setTs_zero may).moveHost .st5 s.started s.tickEn life rfl
      (fun _ => h.dataDriven (by simp [pos, HostPos.dataDriven]))
      (fun _ => h.markerDriven (by simp [pos, HostPos.markerDriven])) (by simp)
  case st5 =>
    cases e
    simp only [HostPos.lifecycleOk, Bool.and_eq_true, Bool.not_eq_true'] at life
    exact h.moveHost .st6 true s.tickEn (by simp [HostPos.lifecycleOk, life]) rfl
      (fun _ => h.dataDriven (by simp [pos, HostPos.dataDriven]))
      (fun _ => h.markerDriven (by simp [pos, HostPos.markerDriven])) (by simp)
  case st6 =>
    cases e
    simp only [HostPos.lifecycleOk, Bool.and_eq_true, Bool.not_eq_true'] at life
    exact h.moveHost .idle s.started true (by simp [HostPos.lifecycleOk, life]) rfl
      (fun _ => h.dataDriven (by simp [pos, HostPos.dataDriven]))
      (fun _ => h.markerDriven (by simp [pos, HostPos.markerDriven])) (by simp)
  case sp1 r =>
    cases e
    refine h.moveHost (.sp2 r) s.started false rfl rfl (fun run => h.dataDriven (.inl ?_))
      (fun run => h.markerDriven (.inl ?_)) (by simp)
    all_goals
      simp only [HostPos.dataDriven, HostPos.markerDriven] at run
      unfold running
      tauto
  case sp2 r =>
    cases e
    simp only [HostPos.lifecycleOk, Bool.not_eq_true'] at life
    exact h.moveHost (.sp3 r) false s.tickEn (by simp [HostPos.lifecycleOk, life]) rfl
      (by simp [life, HostPos.dataDriven]) (by simp [life, HostPos.markerDriven]) (by simp)
  case sp3 r =>
    cases e
    have start := h.setAcc (Nat.zero_le s.params.n)
    cases r
    · refine start.setHostPos .idle ?_ rfl rfl rfl (by decide)
      simp only [HostPos.lifecycleOk, Bool.and_eq_true, Bool.not_eq_true'] at life
      simp [HostPos.lifecycleOk, life]
    · exact start.setHostPos .st1 life rfl rfl rfl (by decide)

/-! ### ENGINE's micro-steps -/

/-- A new position inside the invocation, TS and the charge still to come as they are. -/
theorem Inv.moveEngine {s u : State} (h : Inv s) (live : s.enginePos.budgetLive = true) (keeps : EngineKeeps s u)
    (ts : u.ts = s.ts) (guard : u.guard = s.guard) (budget : u.budget ≤ s.budget) (p : EnginePos) (inside : p ≠ .idle)
    (read : p.beforeRead = true → s.enginePos.beforeRead = true ∨ s.ts ≠ 0)
    (charge : p.charge ≤ u.budget) (mask : u.irqMask = p.inSlot)
    (high : u.dataLvl = .driven .low → p.dataMayBeLow = true)
    (data : u.dataLvl = s.dataLvl ∨ u.dataLvl ≠ .undriven)
    (marker : u.markerLvl = s.markerLvl ∨ u.markerLvl ≠ .undriven) : Inv (u.setEnginePos p) := by
  have ne : s.enginePos ≠ .idle := fun idle => by
    rw [idle] at live
    cases live
  have k := keeps.trans (setEnginePos_keeps u p)
  refine h.engine ne k.params k.buf k.acc k.started k.tickEn k.hostPos k.dataPinAct k.markerPinAct ?_ ?_ ?_ charge mask ?_
    high data marker
  · exact ts ▸ h.ts
  · intro sequential before
    rw [State.setEnginePos_ts, ts]
    rcases read before with old | new
    · exact h.readIndex sequential old
    · omega
  · exact fun _ => budget.trans (h.budget live)
  · rw [State.setEnginePos_guard, guard]
    exact ⟨fun _ => inside, fun _ => h.guard.mpr ne⟩

/-- L0: the budget check of the selected unit (42_frame_tick.md R153). -/
theorem Inv.selectUnit {s : State} (h : Inv s) (pos : s.enginePos = .l0) : Inv (selectUnit s) := by
  have high := h.dataHigh
  have mask := h.mask
  rw [pos] at high mask
  have move := h.moveEngine (by rw [pos]; rfl) (.refl s) rfl rfl le_rfl
  unfold Machine.selectUnit stopHandler
  split_ifs with ts budget budget
  · exact move .x0 (by decide) (by simp [EnginePos.beforeRead]) (Nat.zero_le _) mask high (.inl rfl) (.inl rfl)
  · exact move .f1 (by decide) (by simp [EnginePos.beforeRead]) (Nat.not_lt.mp budget) mask high (.inl rfl) (.inl rfl)
  · exact move .x0 (by decide) (by simp [EnginePos.beforeRead]) (Nat.zero_le _) mask high (.inl rfl) (.inl rfl)
  · exact move .s1 (by decide) (fun _ => .inr ts) (Nat.not_lt.mp budget) mask high (.inl rfl) (.inl rfl)

/-- SEND_BYTE after B0: the mask stays until B11, and the line is high again after the stop bits. -/
theorem Inv.sendMicro {s : State} (h : Inv s) {p : SendPos} {pin : Pin} {caller : Caller}
    (pos : s.enginePos = .send p pin caller) : Inv ((sendMicro p pin s).setEnginePos (afterSend p pin caller)) := by
  have charge := h.charge
  have mask := h.mask
  have high := h.dataHigh
  rw [pos] at charge mask high
  have keeps := sendMicro_keeps p pin s
  have live : s.enginePos.budgetLive = true := by rw [pos]; rfl
  cases p with
  | b1 =>
    exact h.moveEngine live keeps rfl rfl le_rfl _ (by simp [afterSend]) (by simp [afterSend, EnginePos.beforeRead])
      (by cases caller <;> exact charge) mask (fun _ => rfl) (.inr (by simp [Machine.sendMicro, sendStartBit])) (.inl rfl)
  | bit i =>
    have next : afterSend (.bit i) pin caller = .send .b10 pin caller ∨
        ∃ j, afterSend (.bit i) pin caller = .send (.bit j) pin caller := by
      simp only [afterSend]
      split
      · exact .inr ⟨_, rfl⟩
      · exact .inl rfl
    rcases next with next | ⟨j, next⟩
    all_goals
      rw [next]
      exact h.moveEngine live keeps rfl rfl le_rfl _ (by simp) (by simp [EnginePos.beforeRead])
        (by cases caller <;> exact charge) mask (fun _ => rfl) (.inr (by simp [Machine.sendMicro, sendDataBit])) (.inl rfl)
  | b10 =>
    exact h.moveEngine live keeps rfl rfl le_rfl _ (by simp [afterSend]) (by simp [afterSend, EnginePos.beforeRead])
      (by cases caller <;> exact charge) mask (by simp [Machine.sendMicro, sendStopBits])
      (.inr (by simp [Machine.sendMicro, sendStopBits])) (.inl rfl)
  | b11 =>
    cases caller <;>
      exact h.moveEngine live keeps rfl rfl le_rfl _ (by simp [afterSend]) (by simp [afterSend, EnginePos.beforeRead])
        charge rfl high (.inl rfl) (.inl rfl)

/-- A1: TS stays in 0..N (42_frame_tick.md R157). -/
theorem Inv.advanceTo {s : State} (h : Inv s) {n : Nat} (pos : s.enginePos = .a1 n) : Inv (advanceTo n s) := by
  have mask := h.mask
  have high := h.dataHigh
  have budget := h.budget
  have guard := h.guard.mpr (by simp [pos])
  rw [pos] at mask high budget
  have k := advanceTo_keeps n s
  have engine := h.engine (t := Machine.advanceTo n s) (by simp [pos]) k.params k.buf k.acc k.started k.tickEn k.hostPos
    k.dataPinAct k.markerPinAct
  by_cases past : s.acc < n
  · rw [advanceTo_ends past] at engine ⊢
    exact engine (Nat.zero_le _) (by simp [EnginePos.beforeRead]) (fun _ => budget rfl) (Nat.zero_le _) mask
      (by simp [guard]) high (.inl rfl) (.inr (by simp))
  · rw [advanceTo_goes_on (Nat.not_lt.mp past)] at engine ⊢
    exact engine ((Nat.not_lt.mp past).trans h.acc) (by simp [EnginePos.beforeRead]) (fun _ => budget rfl)
      (Nat.zero_le _) mask (by simp [guard]) high (.inl rfl) (.inl rfl)

/-- ENGINE's micro-steps keep the invariant. -/
theorem engineMicro_inv {s t : State} (h : Inv s) (e : engineMicro s = .next t) : Inv t := by
  have k := engineMicro_keeps e
  have charge := h.charge
  have mask := h.mask
  have high := h.dataHigh
  have budget := h.budget
  have guard := h.guard
  have move := fun live => h.moveEngine (u := s) live (.refl s) rfl rfl le_rfl
  have engine := fun ne => h.engine (t := t) ne k.params k.buf k.acc k.started k.tickEn k.hostPos k.dataPinAct
    k.markerPinAct
  cases pos : s.enginePos <;> simp only [engineMicro, pos] at e <;>
    rw [pos] at charge mask high move engine budget guard <;> cases e
  case idle => exact h
  case e1 =>
    exact engine (by decide) h.ts (by simp [EnginePos.beforeRead]) (fun _ => le_rfl) (Nat.zero_le _) mask
      (by simpa using guard) high (.inl rfl) (.inl rfl)
  case l0 => exact h.selectUnit pos
  case f1 =>
    exact h.moveEngine (u := frameBreak s) (by simp [pos, EnginePos.budgetLive]) (by constructor <;> simp [frameBreak])
      rfl rfl le_rfl .f2 (by decide) (by simp [EnginePos.beforeRead]) charge mask (fun _ => rfl)
      (.inr (by simp [frameBreak])) (.inl rfl)
  case f2 =>
    exact h.moveEngine (u := frameMark s) (by simp [pos, EnginePos.budgetLive]) (by constructor <;> simp [frameMark])
      rfl rfl le_rfl .f3 (by decide) (by simp [EnginePos.beforeRead]) charge mask (by simp [frameMark])
      (.inr (by simp [frameMark])) (.inl rfl)
  case f3 =>
    exact h.moveEngine (u := sendLatch startCode s) (by simp [pos, EnginePos.budgetLive])
      (by constructor <;> simp [sendLatch]) rfl rfl le_rfl (.send .b1 _ _) (by simp) (by simp [EnginePos.beforeRead])
      charge rfl high (.inl rfl) (.inl rfl)
  case f4 =>
    exact h.moveEngine (u := s.setBudget (s.budget - frameStartCost)) (by simp [pos, EnginePos.budgetLive])
      (by constructor <;> simp) rfl rfl (Nat.sub_le _ _) .a0 (by decide) (by simp [EnginePos.beforeRead])
      (Nat.zero_le _) mask high (.inl rfl) (.inl rfl)
  case s1 =>
    exact h.moveEngine (u := driveMarker .low s) (by simp [pos, EnginePos.budgetLive]) (by constructor <;> simp)
      rfl rfl le_rfl .s2 (by decide) (fun _ => .inl (by simp [pos, EnginePos.beforeRead])) charge mask high (.inl rfl)
      (.inr (by simp))
  case s2 =>
    exact h.moveEngine (u := countStrayRead s) (by simp [pos, EnginePos.budgetLive]) (by constructor <;> simp)
      (by simp) (by simp) (by simp) (.s3 _) (by simp) (by simp [EnginePos.beforeRead])
      (countStrayRead_budget s ▸ charge) (countStrayRead_irqMask s ▸ mask) (countStrayRead_dataLvl s ▸ high)
      (.inl (by simp)) (.inl (by simp))
  case s3 b =>
    exact h.moveEngine (u := sendLatch b s) (by simp [pos, EnginePos.budgetLive])
      (by constructor <;> simp [sendLatch]) rfl rfl le_rfl (.send .b1 _ _) (by simp) (by simp [EnginePos.beforeRead])
      charge rfl high (.inl rfl) (.inl rfl)
  case s4 =>
    exact h.moveEngine (u := s.setBudget (s.budget - slotCost)) (by simp [pos, EnginePos.budgetLive])
      (by constructor <;> simp) rfl rfl (Nat.sub_le _ _) .a0 (by decide) (by simp [EnginePos.beforeRead])
      (Nat.zero_le _) mask high (.inl rfl) (.inl rfl)
  case send => exact h.sendMicro pos
  case a0 =>
    exact move rfl (.a1 _) (by simp) (by simp [EnginePos.beforeRead]) (Nat.zero_le _) mask high (.inl rfl) (.inl rfl)
  case a1 => exact h.advanceTo pos
  case x0 =>
    exact engine (by decide) h.ts (by simp [EnginePos.beforeRead]) (by simp [EnginePos.budgetLive]) (Nat.zero_le _) mask
      (by simp) high (.inl rfl) (.inl rfl)

/-! ### Every step and every run -/

/-- T0 with E0: a tick is accepted outside an invocation only. -/
theorem Inv.enterHandler {s : State} (h : Inv s) (accepted : tickAccepted s = true) : Inv (enterHandler s) := by
  obtain ⟨tickEn, guard, mask⟩ := tickAccepted_eq_true.mp accepted
  have idle : s.enginePos = .idle := by
    by_contra ne
    rw [h.guard.mpr ne] at guard
    cases guard
  have run : running s := .inr (.inl tickEn)
  have high := h.dataHigh
  rw [idle] at high
  exact {
    params := h.params
    buffer := h.buffer
    acc := h.acc
    ts := h.ts
    readIndex := by simp [EnginePos.beforeRead]
    budget := by simp [EnginePos.budgetLive]
    charge := Nat.zero_le _
    mask := mask
    guard := by simp
    lifecycle := h.lifecycle
    operands := h.operands
    dataHigh := high
    dataDriven := fun _ => h.dataDriven (.inl run)
    markerDriven := fun _ => h.markerDriven (.inl run)
    pinsDiffer := h.pinsDiffer }

/-- A new command begins outside Start and Stop, with no operand condition of its own yet. -/
theorem Inv.beginCommand {s : State} (h : Inv s) (idle : s.hostPos = .idle) {w : CmdWord} {i : Instr}
    (code : decode (.formatH w) = .ok i) : Inv (s.setHostPos (commandPos i)) := by
  have life := h.lifecycle
  rw [idle] at life
  rcases decode_formatH_cases code with ⟨c, v, rfl⟩ | ⟨n, rfl⟩ | ⟨d, m, rfl⟩ | rfl <;>
    exact h.setHostPos _ life rfl rfl rfl (by simp [commandPos])

/-- The schedule is no part of the invariant. -/
theorem Inv.setSchedule {s : State} (h : Inv s) (rest : List Event) : Inv (s.setSchedule rest) :=
  ⟨h.params, h.buffer, h.acc, h.ts, h.readIndex, h.budget, h.charge, h.mask, h.guard, h.lifecycle, h.operands,
    h.dataHigh, h.dataDriven, h.markerDriven, h.pinsDiffer⟩

/-- Settles O54: what each micro-step keeps, each step keeps. -/
theorem invariantKept : Obligations.InvariantKept := fun _ _ h e =>
  step_keeps (fun _ rest h => h.setSchedule rest) (fun _ _ _ h _ idle code => h.beginCommand idle code)
    (fun _ h accepted => h.enterHandler accepted) (fun _ _ h may e => hostMicro_inv h may e)
    (fun _ _ h e => engineMicro_inv h e) h e

theorem inv_resetWith {p : Params} (wf : p.wf = true) : Inv (State.resetWith p) where
  params := wf
  buffer := reset_buffer_wf p
  acc := Nat.zero_le _
  ts := Nat.zero_le _
  readIndex := by simp [State.resetWith, EnginePos.beforeRead]
  budget := by simp [State.resetWith, EnginePos.budgetLive]
  charge := Nat.zero_le _
  mask := rfl
  guard := by simp [State.resetWith]
  lifecycle := rfl
  operands := rfl
  dataHigh := by simp [State.resetWith]
  dataDriven := by simp [State.resetWith, running, HostPos.dataDriven]
  markerDriven := by simp [State.resetWith, running, HostPos.markerDriven]
  pinsDiffer := by simp [State.resetWith]

/-- Settles O53: after reset nothing runs, both lines are undriven and the trace is empty. -/
theorem invariantAtReset : Obligations.InvariantAtReset := by
  intro p events wf
  refine ⟨(inv_resetWith wf).setSchedule events, fun sequential => ?_⟩
  exact {
    sequential := sequential
    startAlone := fun _ => rfl
    slotPin := by simp [State.resetWith, EnginePos.slotPin]
    data := fun _ => rfl
    marker := fun _ _ => rfl }

/-- The invariant holds in every state of every run. -/
theorem inv_of_reachable {p : Params} (wf : p.wf = true) {s : State} (r : Reachable p s) : Inv s ∧ s.params = p := by
  induction r with
  | reset schedule => exact ⟨(inv_resetWith wf).setSchedule schedule, rfl⟩
  | step s t _ e ih => exact ⟨invariantKept s t ih.1 e, (traceOnlyGrows s t e).1.trans ih.2⟩

/-- Outside Start and Stop the flags agree (I6). -/
theorem lifecycleOk_outside {p : HostPos} {started tickEn : Bool} (h : p.lifecycleOk started tickEn = true)
    (start : p.inStart = false) (stop : p.inStop = false) : tickEn = started := by
  have agree : (started == tickEn) = true := by
    unfold HostPos.lifecycleOk at h
    split at h <;> simp_all [HostPos.inStart, HostPos.inStop]
  exact (eq_of_beq agree).symm

/-- Settles O56: each of the eight invariants is read off the invariant of the reachable state. -/
theorem reachableStates : Obligations.ReachableStates := by
  intro p s wf r
  obtain ⟨h, rfl⟩ := inv_of_reachable wf r
  refine ⟨rfl, h.acc, h.ts, fun sequential pos => ?_, fun idle e1 => h.budget ?_, fun mask => h.guard.mpr ?_,
    lifecycleOk_outside h.lifecycle, fun driven outside => ?_, fun idle => ?_, h.buffer⟩
  · have low := h.readIndex sequential (by rw [pos]; rfl)
    have high := h.ts
    exact ⟨_, memRead_inside (by omega)⟩
  · unfold EnginePos.budgetLive
    split <;> simp_all
  · intro idle
    rw [h.mask, idle] at mask
    cases mask
  · cases level : s.dataLvl with
    | undriven => exact absurd level driven
    | driven l =>
      cases l with
      | high => rfl
      | low =>
        rw [h.dataHigh level] at outside
        cases outside
  · by_contra guard
    exact h.guard.mp (by simpa using guard) idle

end Sys2Proof.Machine
end

section
/-! PROOFS. The memory primitives (00_scope.md R14), reset, several blocks, and what each operation of 42_frame_tick.md
and 40_config_commands.md leaves, each read off the law that says what the operation does. -/

namespace Sys2Proof.Machine

/-! ### Memory, reset and several blocks -/

/-- A read after a write inside 0..N-1. -/
theorem memRead_cellWrite {s : State} (wf : Memory.wf s.params.n s.buf = true) {a : Int} (inside : 0 ≤ a ∧ a < s.params.n)
    (v : Byte) (b : Int) :
    memRead (s.setBuf (cellWrite s.buf a.toNat v)) b = if b = a then some v else memRead s b := by
  by_cases range : 0 ≤ b ∧ b < s.params.n
  · have read := cellRead_cellWrite s.buf s.params.n 0 a.toNat b.toNat v wf
    rw [memRead_inside (s := s.setBuf (cellWrite s.buf a.toNat v)) range, memRead_inside range, State.bufAt,
      State.setBuf_buf, read, State.bufAt]
    have same : b.toNat = a.toNat ↔ b = a := by omega
    simp only [same]
    split_ifs <;> rfl
  · have other : b ≠ a := fun same => range (same ▸ inside)
    rw [if_neg other, memRead_eq_none.mpr range, memRead_eq_none]
    exact range

/-- Settles O58, inside and outside 0..N-1. -/
theorem readAfterWrite : Obligations.ReadAfterWrite := by
  intro s a v wf
  refine ⟨fun low high => ?_, fun outside => ⟨?_, memRead_eq_none.mpr outside⟩⟩
  · have read := memRead_cellWrite wf ⟨low, high⟩ v
    have write := memWrite_inside v ⟨low, high⟩
    refine ⟨_, write, rfl, memWrite_keeps_wf write wf, ?_, fun b other => ?_⟩
    · rw [read, if_pos rfl]
    · rw [read, if_neg other]
  · rw [memWrite, if_neg outside]

/-- A buffer listed from `lo` on reads 0 below. -/
theorem cellRead_below {n lo : Nat} {m : List Host.Cell} (wf : Memory.wfFrom n lo m = true) {a : Nat} (below : a < lo) :
    cellRead m a = 0#8 := by
  induction m generalizing lo with
  | nil => rfl
  | cons cell rest ih =>
    obtain ⟨k, v⟩ := cell
    simp only [Memory.wfFrom, Bool.and_eq_true, decide_eq_true_eq] at wf
    obtain ⟨⟨⟨low, -⟩, -⟩, rest⟩ := wf
    rw [cellRead, if_neg (by omega)]
    exact ih rest (by omega)

/-- The first listed byte is inside the buffer and not 0, and the rest is listed behind it. -/
theorem wfFrom_cons {n lo k : Nat} {v : Byte} {rest : List Host.Cell} :
    Memory.wfFrom n lo ((k, v) :: rest) = true ↔
      lo ≤ k ∧ k < n ∧ v ≠ 0#8 ∧ Memory.wfFrom n (k + 1) rest = true := by
  simp only [Memory.wfFrom, Bool.and_eq_true, decide_eq_true_eq, and_assoc]

/-- Canonical buffers that read alike list the same bytes. -/
theorem eq_of_cellRead_eq {n lo lo' : Nat} {m k : List Host.Cell} (wfm : Memory.wfFrom n lo m = true)
    (wfk : Memory.wfFrom n lo' k = true) (same : ∀ i, i < n → cellRead m i = cellRead k i) : m = k := by
  induction m generalizing lo lo' k with
  | nil =>
    cases k with
    | nil => rfl
    | cons cell rest =>
      obtain ⟨_, inside, nonzero, _⟩ := wfFrom_cons.mp wfk
      have read := same _ inside
      rw [cellRead, cellRead, if_pos rfl] at read
      exact absurd read.symm nonzero
  | cons cell rest ih =>
    obtain ⟨a, v⟩ := cell
    obtain ⟨_, inside, nonzero, rest_m⟩ := wfFrom_cons.mp wfm
    cases k with
    | nil =>
      have read := same _ inside
      rw [cellRead, cellRead, if_pos rfl] at read
      exact absurd read nonzero
    | cons cell' rest' =>
      obtain ⟨b, w⟩ := cell'
      obtain ⟨_, inside', nonzero', rest_k⟩ := wfFrom_cons.mp wfk
      have heads : a = b := by
        rcases Nat.lt_trichotomy a b with lt | eq | gt
        · have read := same a inside
          rw [cellRead, if_pos rfl, cellRead, if_neg (by omega), cellRead_below rest_k (by omega)] at read
          exact absurd read nonzero
        · exact eq
        · have read := same b inside'
          rw [cellRead, if_neg (by omega), cellRead_below rest_m (by omega), cellRead, if_pos rfl] at read
          exact absurd read.symm nonzero'
      subst heads
      have bytes := same a inside
      rw [cellRead, if_pos rfl, cellRead, if_pos rfl] at bytes
      subst bytes
      congr 1
      refine ih rest_m rest_k fun i hi => ?_
      by_cases first : i = a
      · rw [first, cellRead_below rest_m (by omega), cellRead_below rest_k (by omega)]
      · have read := same i hi
        rwa [cellRead, if_neg first, cellRead, if_neg first] at read

/-- Settles O59: the first bytes listed agree, and so do the rest. -/
theorem canonicalBuffersAreEqual : Obligations.CanonicalBuffersAreEqual :=
  fun _ _ _ wfm wfk same => eq_of_cellRead_eq wfm wfk same

/-- Settles O52: the reset state is written out, and its empty buffer reads 0. -/
theorem resetState : Obligations.ResetState := fun p =>
  ⟨_, rfl, fun _ low high => memRead_inside (s := State.resetWith p) ⟨low, high⟩, rfl, rfl, rfl, rfl, rfl, rfl, rfl, rfl,
    rfl, rfl, rfl⟩

/-- Settles O60: reset is block by block, and a step writes one entry of the list of blocks. -/
theorem instancesAreIndependent : Obligations.InstancesAreIndependent := by
  refine ⟨fun params wf => ⟨List.length_map _, fun k p at_k => ⟨?_, ?_⟩⟩, fun k blocks after e => ?_⟩
  · have number := List.all_eq_true.mp wf p (List.mem_of_getElem? at_k)
    rw [systemReset, List.length_map]
    exact of_decide_eq_true number
  · rw [systemReset, List.getElem?_map, at_k, Option.map_some]
  · cases at_k : blocks[k]? with
    | none =>
      simp only [systemStep, at_k, Host.Outcome.next.injEq] at e
      subst e
      exact ⟨rfl, fun _ _ => rfl, fun _ none => by cases none⟩
    | some s =>
      cases next : step s with
      | fault r => simp [systemStep, at_k, next] at e
      | refused r => simp [systemStep, at_k, next] at e
      | next t =>
        simp only [systemStep, at_k, next, Host.Outcome.next.injEq] at e
        subst e
        refine ⟨List.length_set .., fun j other => List.getElem?_set_ne other.symm, fun s' same => ?_⟩
        cases same
        obtain ⟨inside, -⟩ := List.getElem?_eq_some_iff.mp at_k
        exact ⟨t, next, List.getElem?_set_self inside⟩

/-! ### The units -/

/-- Settles O13. -/
theorem frameStartResult : Obligations.FrameStartResult := by
  intro s budget
  rw [List.append_assoc]
  exact execFrameStart_commits budget

/-- Settles O15: the operation and S2 read the free byte and count it. -/
theorem channelSlotReadsFreeByte : Obligations.ChannelSlotReadsFreeByte := by
  refine ⟨fun s budget outside => ⟨_, rfl, ?_⟩, fun s pos outside => ?_⟩
  · rw [List.append_assoc]
    exact execChannelSlot_strays budget outside
  · obtain ⟨byte, count⟩ := slotByte_outside outside
    simp only [engineMicro, pos, slotRead, byte, count]
    rfl

/-- Settles O16: the operations defer the unit, and so does the selection. -/
theorem unitDeferred : Obligations.UnitDeferred := by
  refine ⟨fun s low => execFrameStart_defers low, fun s low => execChannelSlot_defers low, fun s pos ts low => ?_,
    fun s pos ts low => ?_⟩
  · have deferred : selectUnit s = stopHandler s := by simp [selectUnit, ts, frameStartCost, low]
    simp only [engineMicro, pos, deferred]
    rfl
  · have deferred : selectUnit s = stopHandler s := by simp [selectUnit, ts, slotCost, low]
    simp only [engineMicro, pos, deferred]
    rfl

/-- ADVANCE in what a round of the loop reads: TS, the position, and what it leaves (R157). -/
theorem advanceTo_round (n : Nat) (s : State) :
    (advanceTo n s).ts = (if n ≤ s.acc then n else 0) ∧ (advanceTo n s).budget = s.budget ∧
      ((advanceTo n s).enginePos = .x0 ↔ s.acc < n) ∧ ((advanceTo n s).enginePos = .l0 ↔ n ≤ s.acc) ∧
      (advanceTo n s).acc = s.acc ∧ (advanceTo n s).buf = s.buf := by
  by_cases past : s.acc < n
  · rw [advanceTo_ends past]
    simp [past, Nat.not_le.mpr past]
  · have inFrame := Nat.not_lt.mp past
    rw [advanceTo_goes_on inFrame]
    simp [past, inFrame]

/-- Settles O18, by the unit TS selects. -/
theorem unitThenAdvance : Obligations.UnitThenAdvance := by
  intro s frame slot
  by_cases ts : s.ts = 0
  · rw [performUnit_frame ts, execFrameStart_commits (frame ts), andThen_next, exec_advance, if_pos ts]
    exact ⟨_, rfl, advanceTo_round _ _⟩
  · rw [performUnit_slot ts, execChannelSlot_sends (slot ts), andThen_next, exec_advance, if_neg ts]
    exact ⟨_, rfl, advanceTo_round _ _⟩

/-! ### Start, Stop and Restart -/

/-- Settles O19. -/
theorem startResult : Obligations.StartResult := fun _ differ => startProcedure_starts differ

/-- Settles O20. -/
theorem stopResult : Obligations.StopResult := exec_stopProc

/-- Settles O21: Restart is Start on the stopped block, whose configured pins are as before. -/
theorem restartResult : Obligations.RestartResult := fun s =>
  ⟨rfl, fun differ => startProcedure_starts (s := stopProcedure s) differ⟩

theorem startProcedure_refused_iff {s : State} :
    startProcedure s = .refused .onePinForBothLines ↔ s.dataPinCfg = s.markerPinCfg := by
  rw [startProcedure_eq]
  split_ifs with same <;> simp [same]

theorem startIfStopped_refused_iff {s : State} :
    startIfStopped s = .refused .onePinForBothLines ↔ s.started = false ∧ s.dataPinCfg = s.markerPinCfg := by
  cases started : s.started
  · rw [startIfStopped_stopped started, startProcedure_refused_iff]
    simp
  · rw [startIfStopped_started started]
    simp

/-- Settles O22: each operation answers the refusal where it goes on as Start and Start refuses. -/
theorem onePinRefused : Obligations.OnePinRefused := by
  refine fun s => ⟨startProcedure_refused_iff, startProcedure_refused_iff (s := stopProcedure s), fun c v => ?_,
    fun n => ?_, fun d m => ?_⟩
  · change execWrite c v s = _ ↔ _
    by_cases channel : 1 ≤ c ∧ c ≤ s.params.n
    · rw [execWrite_inside channel.1 channel.2, startIfStopped_refused_iff]
      simp [channel]
    · rw [execWrite_outside (by omega)]
      simp only [reduceCtorEq, false_iff]
      exact fun refused => channel ⟨refused.1, refused.2.1⟩
  · by_cases stop : n ≤ 0
    · rw [exec_setcount_of_nonpos stop, exec_stopProc]
      simp [stop]
    · have pos : 0 < n := by omega
      rw [exec_setcount_of_pos pos, startIfStopped_refused_iff]
      simp [pos]
  · change execConfigpins d m s = _ ↔ _
    rcases configpins_cases d m s with ⟨param, started, change⟩ | stores
    · rw [execConfigpins_restarts param started change, execRestart_eq, startProcedure_refused_iff]
      simp [param, started, pinsChange_eq_true.mp change]
    · rw [execConfigpins_stores stores, ← pinsChange_eq_true]
      simp only [reduceCtorEq, false_iff]
      rintro ⟨param, started, change, -⟩
      simp [param, started, change] at stores

/-! ### The host commands -/

/-- Settles O23, by the range of the channel and whether the block is started. -/
theorem writeResult : Obligations.WriteResult := by
  refine fun c v s => ⟨execWrite_outside, fun low high started => ?_, fun low high stopped differ => ?_⟩
  · exact (execWrite_inside low high).trans (startIfStopped_started started)
  · rw [show exec (.write c v) s = _ from execWrite_inside low high, startIfStopped_stopped (by exact stopped),
      startProcedure_starts (by exact differ)]

/-- Settles O26. -/
theorem setcountStarts : Obligations.SetcountStarts := by
  intro n s pos stopped differ
  rw [exec_setcount_of_pos pos, startIfStopped_stopped (by exact stopped), startProcedure_starts (by exact differ)]

/-- Settles O27, by whether the block restarts. -/
theorem configpinsResult : Obligations.ConfigpinsResult := by
  intro d m s
  refine ⟨fun stores => execConfigpins_stores ?_, fun param started change => ?_⟩
  · rcases stores with param | stopped | ⟨rfl, rfl⟩
    · exact .inl param
    · exact .inr (.inl stopped)
    · exact .inr (.inr (by simp [pinsChange]))
  · have restarts : exec (.configpins d m) s = exec .restart { s with dataPinCfg := d, markerPinCfg := m } :=
      execConfigpins_restarts param started (pinsChange_eq_true.mpr change)
    refine ⟨restarts, fun differ => ⟨_, restarts.trans ((restartResult _).2 differ), ?_⟩⟩
    exact ⟨rfl, rfl, rfl, rfl, rfl, rfl, rfl⟩

theorem clampValue_eq (v : Int) :
    clampValue v = if v < 0 then 0#8 else if 255 < v then 255#8 else BitVec.ofInt 8 v := by
  rw [clampValue, clamp]
  split_ifs <;> rfl

/-- WRITE in range: the buffer and the count are as its W1 and W2 leave them, and Start leaves both. -/
theorem execWrite_eq_next {c v : Int} {s t : State} (low : 1 ≤ c) (high : c ≤ s.params.n)
    (e : exec (.write c v) s = .next t) :
    t.buf = cellWrite s.buf (c - 1).toNat (clampValue v) ∧ t.acc = max s.acc c.toNat ∧
      t.dataPinCfg = s.dataPinCfg ∧ t.markerPinCfg = s.markerPinCfg := by
  obtain ⟨-, buf, acc, dataPin, markerPin⟩ := startIfStopped_keeps ((execWrite_inside low high).symm.trans e)
  exact ⟨buf, acc, dataPin, markerPin⟩

/-- Settles O24: WRITE has HOST's access rights, and in range it reads as the memory write of its W1. -/
theorem writeFrame : Obligations.WriteFrame := by
  intro c v s t wf e
  obtain ⟨keeps, -⟩ := exec_host_keeps (.inl ⟨c, v, rfl⟩) e
  by_cases channel : 1 ≤ c ∧ c ≤ s.params.n
  · obtain ⟨buf, acc, dataPin, markerPin⟩ := execWrite_eq_next channel.1 channel.2 e
    have inside : 0 ≤ c - 1 ∧ c - 1 < s.params.n := by omega
    have read : ∀ a, memRead t a = if a = c - 1 then some (clampValue v) else memRead s a := fun a =>
      (memRead_congr (s := s.setBuf _) a buf keeps.params).trans (memRead_cellWrite wf inside (clampValue v) a)
    refine ⟨?_, fun _ _ => ?_, fun a other => ?_, keeps.budget, keeps.txb, keeps.guard, keeps.irqMask, dataPin,
      markerPin, keeps.enginePos, acc ▸ Nat.le_max_left _ _⟩
    · rw [keeps.params, buf]
      exact memWrite_keeps_wf (memWrite_inside _ inside) wf
    · rw [read, if_pos rfl, clampValue_eq]
    · rw [read, if_neg fun same => other ⟨channel.1, channel.2, same⟩]
  · change execWrite c v s = .next t at e
    rw [execWrite_outside (by omega)] at e
    cases e
    exact ⟨wf, fun low high => absurd ⟨low, high⟩ channel, fun _ _ => rfl, rfl, rfl, rfl, rfl, rfl, rfl, rfl, le_rfl⟩

/-! ### New pins and a running engine -/

/-- The state with other configured pins. -/
def withPins (d m : Pin) (s : State) : State := { s with dataPinCfg := d, markerPinCfg := m }

/-- An operation neither reads nor writes the configured pins. -/
def IgnoresPins (d m : Pin) (op : State → Result) : Prop :=
  ∀ s, op (withPins d m s) = andThen (op s) fun t => .next (withPins d m t)

theorem performUnit_ignoresPins (d m : Pin) : IgnoresPins d m performUnit := by
  intro s
  by_cases ts : s.ts = 0
  · rw [performUnit_frame ts, performUnit_frame (s := withPins d m s) ts]
    by_cases budget : s.budget < frameStartCost
    · rw [execFrameStart_defers budget, execFrameStart_defers (s := withPins d m s) budget]
      rfl
    · rw [execFrameStart_commits (Nat.not_lt.mp budget),
        execFrameStart_commits (s := withPins d m s) (Nat.not_lt.mp budget)]
      rfl
  · rw [performUnit_slot ts, performUnit_slot (s := withPins d m s) ts]
    by_cases budget : s.budget < slotCost
    · rw [execChannelSlot_defers budget, execChannelSlot_defers (s := withPins d m s) budget]
      rfl
    · rw [execChannelSlot_sends (Nat.not_lt.mp budget),
        execChannelSlot_sends (s := withPins d m s) (Nat.not_lt.mp budget), countStrayRead_strayReads,
        countStrayRead_strayReads]
      rfl

theorem advanceTo_withPins (d m : Pin) (n : Nat) (s : State) :
    advanceTo n (withPins d m s) = withPins d m (advanceTo n s) := by
  by_cases past : s.acc < n
  · rw [advanceTo_ends past, advanceTo_ends (s := withPins d m s) past]
    rfl
  · rw [advanceTo_goes_on (Nat.not_lt.mp past), advanceTo_goes_on (s := withPins d m s) (Nat.not_lt.mp past)]
    rfl

theorem handlerLoop_ignoresPins (d m : Pin) (fuel : Nat) : IgnoresPins d m (handlerLoop fuel) := by
  induction fuel with
  | zero => exact fun s => rfl
  | succ fuel ih =>
    have round : ∀ s, unlessStopped (withPins d m s) (handlerLoop fuel) =
        andThen (unlessStopped s (handlerLoop fuel)) fun t => .next (withPins d m t) := fun s => by
      unfold unlessStopped
      rw [show (withPins d m s).enginePos = s.enginePos from rfl]
      split
      · rfl
      · exact ih s
    intro s
    obtain ⟨t, unit, answer⟩ := performUnit_answers s
    have unit' := performUnit_ignoresPins d m s
    rw [unit, andThen_next] at unit'
    rcases answer with ⟨rfl, -⟩ | ⟨a0, -⟩
    · rw [handlerLoop_of_deferred fuel unit rfl, handlerLoop_of_deferred fuel unit' rfl]
      rfl
    · rw [handlerLoop_of_performed fuel unit a0, handlerLoop_of_performed fuel unit' a0,
        show (withPins d m t).ts = t.ts from rfl, advanceTo_withPins, round]

/-- The invocation reads the active pins alone (70_reset_and_hazards.md). -/
theorem tick_ignoresPins (d m : Pin) : IgnoresPins d m (exec .tick) := by
  intro s
  cases accepted : tickAccepted s
  · rw [exec_tick_of_dropped accepted, exec_tick_of_dropped (s := withPins d m s) accepted]
    rfl
  · have loop := handlerLoop_ignoresPins d m ((takeTick s).budget / slotCost + 1) (takeTick s)
    rw [exec_tick_of_accepted accepted, exec_tick_of_accepted (s := withPins d m s) accepted]
    change andThen (handlerLoop ((takeTick s).budget / slotCost + 1) (withPins d m (takeTick s))) _ =
      andThen (andThen (handlerLoop ((takeTick s).budget / slotCost + 1) (takeTick s)) _) _
    rw [loop, andThen_assoc, andThen_assoc]
    rfl

/-- Settles O29: CONFIGPINS without a restart writes the configured pins, which the invocation does not read. -/
theorem newPinsWaitForStart : Obligations.NewPinsWaitForStart := by
  intro d m s param
  have stores : exec (.configpins d m) s = .next (withPins d m s) := execConfigpins_stores (.inl param)
  rw [stores, andThen_next]
  exact tick_ignoresPins d m s

end Sys2Proof.Machine
end

section
/-! PROOFS. What one entry of the schedule does (20_memory.md R70, R71; 30_encoding.md R97, R106), what a step cannot
change inside a slot, inside an invocation and on a stopped block, which steps stop, and that the line levels follow the
trace (10_state.md R34). -/

namespace Sys2Proof.Machine

/-! ### The head of the schedule -/

theorem step_admitted {s : State} {e : Event} {rest : List Event} (head : s.schedule = e :: rest)
    (admitted : admissible e s = true) : step s = perform e (s.setSchedule rest) := by
  simp only [step, scheduled, head, admitted, if_true]

theorem step_waits {s : State} {e : Event} {rest : List Event} (head : s.schedule = e :: rest)
    (waits : admissible e s = false) : step s = goOn s := by
  simp only [step, scheduled, head, waits, Bool.false_eq_true, if_false]

theorem step_engineOp {s : State} {rest : List Event} (head : s.schedule = .engineOp :: rest) {i : Instr}
    (select : engineSelected (s.setSchedule rest) = some i) :
    step s = andThen (exec i (s.setSchedule rest)) fun t => .next (afterEngineOp t) :=
  (step_admitted head rfl).trans (engineOperation_selected select)

/-- A new command word is admitted where HOST may step and has no command in progress (R109). -/
theorem admissible_word {s : State} (may : hostMayStep s = true) (idle : s.hostPos = .idle) :
    (hostMayStep s && decide (s.hostPos = .idle)) = true := by
  simp [may, idle]

theorem decode_reserved {op : BitVec 4} (a b : BitVec 16) (reserved : op = 0x0#4 ∨ 0x5#4 ≤ op) :
    decode (.formatH (commandWord op a b)) = .error (.reservedOp op) := by
  have others : ∀ op : BitVec 4, op = 0x0#4 ∨ 0x5#4 ≤ op → op ≠ 0x1#4 ∧ op ≠ 0x2#4 ∧ op ≠ 0x3#4 ∧ op ≠ 0x4#4 := by
    decide
  obtain ⟨write, setcount, configpins, stop⟩ := others op reserved
  simp only [decode, decodeCommand, opField_commandWord, write, setcount, configpins, stop, if_false]

/-- Settles O4: the word is rejected, and a step that takes a rejected word answers the state it is given. -/
theorem reservedWordsIgnored : Obligations.ReservedWordsIgnored := by
  intro op a b reserved
  have reject := decode_reserved a b reserved
  refine ⟨reject, fun s rest may idle => ⟨fun head => ?_, fun head => ?_⟩⟩
  · rw [step_admitted head (admissible_word may idle)]
    simp only [perform, runCommand, reject]
    rfl
  · rw [step_admitted head (admissible_word may idle)]
    simp only [perform, beginCommand, reject]
    rfl

/-- Settles O45: an entry that is admitted is performed, and an OTHERS step waits for the mask. -/
theorem stepRunsTheSchedule : Obligations.StepRunsTheSchedule := by
  refine fun s rest => ⟨fun w i head code may idle => ⟨decode_wf code, ?_⟩, fun w i head code may idle => ?_,
    fun head => ?_, fun head => ?_, fun i head may select => ?_, fun i head select => ?_, fun head may => ?_,
    fun head => ?_, fun head unmasked => ?_, fun head masked inside => ?_⟩
  · exact (step_admitted head (admissible_word may idle)).trans (runCommand_ok code _)
  · rw [step_admitted head (admissible_word may idle)]
    exact congrArg Host.Outcome.next (beginCommand_ok code _)
  · exact step_admitted head rfl
  · exact step_admitted head rfl
  · exact (step_admitted head may).trans (hostOperation_selected (s := s.setSchedule rest) select)
  · exact step_engineOp head select
  · exact step_admitted head may
  · exact step_admitted head rfl
  · exact step_admitted head (by simp [admissible, unmasked])
  · rw [step_waits head (by simp [admissible, masked]), goOn, if_neg inside]

/-! ### Placed words -/

theorem accepted_eq_some {r : Except Reject Instr} {i : Instr} : accepted r = some i ↔ r = .ok i := by
  cases r <;> simp [accepted]

/-- A 36-bit table word that is not the frame-start pattern is a command word (log 12). -/
theorem decodeWord36_command {w : Nat} {i : Instr} (h : decodeWord36 w = some i) (other : i ≠ .frameStart) :
    decode (.formatH (BitVec.ofNat 36 w)) = .ok i := by
  unfold decodeWord36 at h
  cases command : decode (.formatH (BitVec.ofNat 36 w)) with
  | ok j =>
    simp only [command, accepted] at h
    split_ifs at h
    exact congrArg Except.ok (Option.some.inj h)
  | error reason =>
    simp only [command, accepted] at h
    split_ifs at h
    exact absurd (decode_formatF_eq_ok.mp (accepted_eq_some.mp h)).2 other

theorem decodeTableWord_slot (v : Byte) : decodeTableWord 16 (slotWord v).toNat = some (.sendByte v 0#8) := by
  have small := (slotWord v).isLt
  simp only [decodeTableWord, Nat.reduceEqDiff, if_false, if_true, small, BitVec.ofNat_toNat, BitVec.setWidth_eq, decode,
    decodeSlot_slotWord, accepted]

/-- Settles O46: the placement puts the operation at the head of the schedule, or ENGINE at its start. -/
theorem placedWordRuns : Obligations.PlacedWordRuns := by
  refine fun s => ⟨fun w i table other => ?_, rfl, ?_, fun v => ?_⟩
  · have code := decodeWord36_command table other
    have placed : s.withFetchWord 40 w =
        { s with hostPos := .idle, enginePos := .idle, schedule := .command (BitVec.ofNat 36 w) :: s.schedule } := by
      rw [State.withFetchWord, placeWord, table]
      rcases decode_formatH_cases code with ⟨c, v, rfl⟩ | ⟨n, rfl⟩ | ⟨d, m, rfl⟩ | rfl <;> rfl
    rw [placed, step_admitted (e := .command (BitVec.ofNat 36 w)) rfl (admissible_word (by exact hostMayStep_of_idle rfl)
      (by exact rfl))]
    exact runCommand_ok code _
  · have placed : s.withFetchWord 40 0b00000000000111111111111100000000011 = placeInstr .frameStart 0x7FFE003#36 s := rfl
    have enough : frameStartCost ≤ max s.budget frameStartCost := Nat.le_max_right _ _
    rw [placed, step_engineOp rfl (i := .frameStart) (by simp [engineSelected, placeInstr, Nat.not_lt.mpr enough])]
    change andThen (execFrameStart _) _ = execFrameStart _
    rw [execFrameStart_commits (by exact enough)]
    exact (execFrameStart_commits (by exact enough)).symm
  · have placed : s.withFetchWord 16 (slotWord v).toNat = placeInstr (.sendByte v 0#8) (BitVec.ofNat 36 (slotWord v).toNat) s := by
      rw [State.withFetchWord, placeWord, decodeTableWord_slot]
    rw [placed, step_engineOp rfl (i := .sendByte v 0#8) rfl, exec_sendByte, exec_sendByte]
    rfl

/-! ### Ticks -/

theorem tickAccepted_eq_false {s : State} :
    tickAccepted s = false ↔ s.tickEn = false ∨ s.guard = true ∨ s.irqMask = true := by
  cases tickEn : s.tickEn <;> cases guard : s.guard <;> cases mask : s.irqMask <;>
    simp [tickAccepted, tickEn, guard, mask]

theorem microRun_fixed {micro : State → Result} {s : State} (fixed : micro s = .next s) (k : Nat) :
    microRun micro k s = .next s := by
  induction k with
  | zero => rfl
  | succ k ih => rw [microRun_succ, fixed, andThen_next, ih]

theorem pulseTick_of_dropped {s : State} (dropped : tickAccepted s = false) : pulseTick s = s := by
  simp [pulseTick, dropped]

/-- Settles O35: the state is a fixed point of a tick that is dropped. -/
theorem droppedTicksLeaveNoTrace : Obligations.DroppedTicksLeaveNoTrace := by
  intro s k dropped
  rw [← tickAccepted_eq_false] at dropped
  exact ⟨microRun_fixed (exec_tick_of_dropped dropped) k,
    microRun_fixed (by rw [pulseTick_of_dropped dropped]) k⟩

/-- Settles O36: GUARD is set with the test, and a guarded tick is dropped. -/
theorem handlerEntryAndExit : Obligations.HandlerEntryAndExit := by
  refine ⟨fun s accepted => ?_, fun s pos => ?_⟩
  · have dropped : tickAccepted (enterHandler s) = false := tickAccepted_eq_false.mpr (.inr (.inl rfl))
    rw [pulseTick_of_accepted accepted]
    exact ⟨rfl, pulseTick_of_dropped dropped, exec_tick_of_dropped dropped, rfl⟩
  · simp only [engineMicro, pos]
    rfl

/-! ### Inside an invocation -/

/-- Settles O48: with a sequential host a step inside an invocation is ENGINE's (20_memory.md R71). -/
theorem hostWaitsForTheInvocation : Obligations.HostWaitsForTheInvocation := by
  intro s t sequential inside e
  obtain ⟨u, from_s, row⟩ := step_microRow s
  have waits : hostMayStep u ≠ true := fun may => by
    rcases from_s with rfl | ⟨rest, rfl⟩ <;> exact inside ((hostMayStep_sequential sequential).mp may)
  have keeps : EngineKeeps u t := by
    cases row with
    | host k may run => exact absurd may waits
    | command k may idle w i code run => exact absurd may waits
    | engine k run => exact microRun_engine_keeps (run.symm.trans e)
    | tick k accepted run => exact (enterHandler_keeps u).trans (microRun_engine_keeps (run.symm.trans e))
  rcases from_s with rfl | ⟨rest, rfl⟩ <;>
    exact ⟨keeps.buf, keeps.acc, keeps.started, keeps.tickEn, keeps.dataPinCfg, keeps.markerPinCfg, keeps.dataPinAct,
      keeps.markerPinAct, keeps.hostPos⟩

/-- A micro-step of SEND_BYTE leaves TS, the marker line and GUARD, and the invocation goes on. -/
theorem sendMicro_in_slot {s t : State} (slot : s.enginePos.inSlot = true) (e : engineMicro s = .next t) :
    EngineKeeps s t ∧ t.ts = s.ts ∧ t.markerLvl = s.markerLvl ∧ t.guard = s.guard ∧ t.enginePos ≠ .idle := by
  refine ⟨engineMicro_keeps e, ?_⟩
  cases pos : s.enginePos with
  | send p pin caller =>
    have goes_on : afterSend p pin caller ≠ .idle := by
      cases p with
      | bit i =>
        simp only [afterSend]
        split <;> simp
      | b11 => cases caller <;> simp [afterSend]
      | _ => simp [afterSend]
    simp only [engineMicro, pos, Host.Outcome.next.injEq] at e
    subst e
    refine ⟨?_, ?_, ?_, goes_on⟩ <;> cases p <;> rfl
  | _ => simp [pos, EnginePos.inSlot] at slot

/-- Settles O47: with the mask set every entry of the schedule but ENGINE's waits or is dropped. -/
theorem slotIsUninterruptible : Obligations.SlotIsUninterruptible := by
  intro s t h masked e
  have slot : s.enginePos.inSlot = true := h.mask.symm.trans masked
  have inside : s.enginePos ≠ .idle := fun idle => by simp [idle, EnginePos.inSlot] at slot
  have waits : hostMayStep s = false := by simp [hostMayStep, inside, masked]
  have dropped : tickAccepted s = false := tickAccepted_eq_false.mpr (.inr (.inr masked))
  have one : ∃ u, (u = s ∨ ∃ rest, u = s.setSchedule rest) ∧ (engineMicro u = .next t ∨ u = t) := by
    rcases step_cases s with ⟨idle, -⟩ | ⟨-, run⟩ | ⟨event, rest, -, admitted, run⟩
    · exact absurd idle inside
    · exact ⟨s, .inl rfl, .inl (run.symm.trans e)⟩
    · refine ⟨s.setSchedule rest, .inr ⟨rest, rfl⟩, ?_⟩
      rw [run] at e
      cases event with
      | command | present | hostStep | hostOp => simp [admissible, waits] at admitted
      | others => simp [admissible, masked] at admitted
      | tick =>
        rw [show perform .tick _ = _ from exec_tick_of_dropped (s := s.setSchedule rest) dropped] at e
        exact .inr (Host.Outcome.next.inj e)
      | tickPulse =>
        rw [perform, pulseTick_of_dropped (s := s.setSchedule rest) dropped] at e
        exact .inr (Host.Outcome.next.inj e)
      | engineStep => exact .inl e
      | engineOp =>
        refine .inl ((engineOperation_unselected ?_).symm.trans e)
        cases pos : s.enginePos <;> simp [pos, EnginePos.inSlot] at slot
        simp [engineSelected, pos]
  obtain ⟨u, from_s, micro⟩ := one
  have slot_u : u.enginePos.inSlot = true := by
    rcases from_s with rfl | ⟨rest, rfl⟩ <;> exact slot
  have kept : EngineKeeps u t ∧ t.ts = u.ts ∧ t.markerLvl = u.markerLvl ∧ t.guard = u.guard ∧ t.enginePos ≠ .idle := by
    rcases micro with micro | rfl
    · exact sendMicro_in_slot slot_u micro
    · exact ⟨.refl u, rfl, rfl, rfl, fun idle => by simp [idle, EnginePos.inSlot] at slot_u⟩
  obtain ⟨k, rest⟩ := kept
  rcases from_s with rfl | ⟨_, rfl⟩ <;>
    exact ⟨k.buf, k.acc, k.started, k.tickEn, k.dataPinCfg, k.markerPinCfg, k.dataPinAct, k.markerPinAct, k.hostPos, rest⟩

/-! ### A stopped block -/

/-- What a stopped block keeps while nothing wakes it. -/
structure Silent (s t : State) : Prop where
  trace : t.trace = s.trace
  started : t.started = false
  tickEn : t.tickEn = false
  enginePos : t.enginePos = .idle
  guard : t.guard = s.guard
  irqMask : t.irqMask = s.irqMask
  buf : t.buf = s.buf
  ts : t.ts = s.ts

/-- A command that is no WRITE in range and no positive SETCOUNT does not wake a stopped block (60_exceptions.md). -/
theorem exec_command_silent {w : CmdWord} {i : Instr} (code : decode (.formatH w) = .ok i) {s t : State}
    (stopped : Silent s s) (write : ∀ c v, i = .write c v → c < 1 ∨ s.params.n < c)
    (setcount : ∀ n, i = .setcount n → n ≤ 0) (e : exec i s = .next t) : Silent s t := by
  have pos := stopped.enginePos
  rcases decode_formatH_cases code with ⟨c, v, rfl⟩ | ⟨n, rfl⟩ | ⟨d, m, rfl⟩ | rfl
  · rw [show exec (.write c v) s = _ from execWrite_outside (write c v rfl)] at e
    cases e
    exact stopped
  · rw [exec_setcount_of_nonpos (setcount n rfl)] at e
    cases e
    exact ⟨rfl, rfl, rfl, pos, rfl, rfl, rfl, rfl⟩
  · rw [show exec (.configpins d m) s = _ from execConfigpins_stores (.inr (.inl stopped.started))] at e
    cases e
    exact ⟨rfl, stopped.started, stopped.tickEn, pos, rfl, rfl, rfl, rfl⟩
  · cases e
    exact ⟨rfl, rfl, rfl, pos, rfl, rfl, rfl, rfl⟩

theorem hostMicro_idle {s : State} (idle : s.hostPos = .idle) : hostMicro s = .next s := by
  simp only [hostMicro, idle]

theorem engineMicro_idle {s : State} (idle : s.enginePos = .idle) : engineMicro s = .next s := by
  simp only [engineMicro, idle]

/-- With both agents idle and ticks disabled, a command is all that can do anything. -/
theorem perform_silent {event : Event} {s t : State} (stopped : Silent s s) (host : s.hostPos = .idle)
    (wake : ∀ w, event = .command w → (∀ c v, decode (.formatH w) = .ok (.write c v) → c < 1 ∨ s.params.n < c) ∧
      ∀ n, decode (.formatH w) = .ok (.setcount n) → n ≤ 0)
    (e : perform event s = .next t) : Silent s t := by
  have dropped : tickAccepted s = false := tickAccepted_eq_false.mpr (.inl stopped.tickEn)
  have stays : ∀ {r : Result}, r = .next s → r = .next t → Silent s t := fun same answer =>
    Host.Outcome.next.inj (same.symm.trans answer) ▸ stopped
  cases event with
  | command w =>
    cases code : decode (.formatH w) with
    | ok i =>
      rw [perform, runCommand_ok code] at e
      obtain ⟨write, setcount⟩ := wake w rfl
      exact exec_command_silent code stopped (fun c v is => write c v (is ▸ code)) (fun n is => setcount n (is ▸ code)) e
    | error reason => exact stays (by simp only [perform, runCommand, code]) e
  | present w =>
    cases code : decode (.formatH w) with
    | ok i =>
      rw [perform, beginCommand_ok code] at e
      cases e
      exact ⟨rfl, stopped.started, stopped.tickEn, stopped.enginePos, rfl, rfl, rfl, rfl⟩
    | error reason => exact stays (by simp only [perform, beginCommand, code]) e
  | tick => exact stays (exec_tick_of_dropped dropped) e
  | tickPulse => exact stays (by rw [perform, pulseTick_of_dropped dropped]) e
  | hostStep => exact stays (hostMicro_idle host) e
  | engineStep => exact stays (engineMicro_idle stopped.enginePos) e
  | hostOp =>
    exact stays ((hostOperation_unselected (by simp only [hostSelected, host])).trans (hostMicro_idle host)) e
  | engineOp =>
    exact stays ((engineOperation_unselected (by simp only [engineSelected, stopped.enginePos])).trans
      (engineMicro_idle stopped.enginePos)) e
  | others => exact stays rfl e

/-- Settles O33: what is in progress is nothing, and no entry of the schedule wakes the block. -/
theorem stoppedBlockStaysSilent : Obligations.StoppedBlockStaysSilent := by
  intro s t started tickEn host engine wake e
  rcases step_cases s with ⟨-, run⟩ | ⟨inside, -⟩ | ⟨event, rest, head, -, run⟩
  · cases (hostMicro_idle host).symm.trans (run.symm.trans e)
    exact ⟨rfl, started, tickEn, engine, rfl, rfl, rfl, rfl⟩
  · exact absurd engine inside
  · have stopped : Silent (s.setSchedule rest) (s.setSchedule rest) :=
      ⟨rfl, started, tickEn, engine, rfl, rfl, rfl, rfl⟩
    have silent := perform_silent stopped host (fun w is => wake w rest (is ▸ head)) (run.symm.trans e)
    exact ⟨silent.trace, silent.started, silent.tickEn, silent.enginePos, silent.guard, silent.irqMask, silent.buf,
      silent.ts⟩

/-! ### Which steps stop -/

/-- An answer that is no fault, and a refusal only of one pin for both lines. -/
def Completes (s : State) (r : Result) : Prop :=
  (∃ t, r = .next t) ∨
    (r = .refused .onePinForBothLines ∧ (s.dataPinCfg = s.markerPinCfg ∨ s.params.pinChangeRestart = true))

theorem Completes.andThen {s : State} {r : Result} (h : Completes s r) (f : State → State) :
    Completes s (andThen r fun t => .next (f t)) := by
  rcases h with ⟨t, rfl⟩ | ⟨rfl, why⟩
  · exact .inl ⟨f t, rfl⟩
  · exact .inr ⟨rfl, why⟩

theorem startProcedure_completes (s : State) : Completes s (startProcedure s) := by
  by_cases differ : s.dataPinCfg = s.markerPinCfg
  · exact .inr ⟨startProcedure_refuses differ, .inl differ⟩
  · exact .inl ⟨_, startProcedure_starts differ⟩

theorem startIfStopped_completes (s : State) : Completes s (startIfStopped s) := by
  cases started : s.started
  · rw [startIfStopped_stopped started]
    exact startProcedure_completes s
  · exact .inl ⟨s, startIfStopped_started started⟩

/-- No operation whole stops but for one pin on both lines. -/
theorem exec_completes (i : Instr) (s : State) : Completes s (exec i s) := by
  cases i with
  | write c v =>
    change Completes s (execWrite c v s)
    by_cases channel : 1 ≤ c ∧ c ≤ s.params.n
    · rw [execWrite_inside channel.1 channel.2]
      exact startIfStopped_completes { s with
        buf := cellWrite s.buf (c - 1).toNat (clampValue v), acc := max s.acc c.toNat }
    · exact .inl ⟨s, execWrite_outside (by omega)⟩
  | setcount n =>
    by_cases stop : n ≤ 0
    · exact .inl ⟨_, execSetcount_stops stop⟩
    · rw [exec_setcount_of_pos (by omega)]
      exact startIfStopped_completes { s with acc := min n.toNat s.params.n }
  | configpins d m =>
    change Completes s (execConfigpins d m s)
    rcases configpins_cases d m s with ⟨param, started, change⟩ | stores
    · rw [execConfigpins_restarts param started change, execRestart_eq]
      rcases startProcedure_completes
        { s with dataPinCfg := d, markerPinCfg := m, tickEn := false, started := false, acc := 0 } with next | refused
      · exact .inl next
      · exact .inr ⟨refused.1, .inr param⟩
    · exact .inl ⟨_, execConfigpins_stores stores⟩
  | stop => exact .inl ⟨_, rfl⟩
  | tick =>
    obtain ⟨k, micro⟩ := exec_tick_micro s
    obtain ⟨t, run⟩ := microRun_engine_answers k (pulseTick s)
    exact .inl ⟨t, micro.trans run⟩
  | frameStart =>
    change Completes s (execFrameStart s)
    unfold execFrameStart
    split <;> exact .inl ⟨_, rfl⟩
  | channelSlot =>
    change Completes s (execChannelSlot s)
    unfold execChannelSlot
    split <;> exact .inl ⟨_, rfl⟩
  | sendByte v pin => exact .inl ⟨_, rfl⟩
  | advance => exact .inl ⟨_, rfl⟩
  | startProc => exact startProcedure_completes s
  | stopProc => exact .inl ⟨_, rfl⟩
  | restart => exact startProcedure_completes (stopProcedure s)

/-- A micro-step of HOST stops at ST1 for one pin on both lines, and nowhere else where W0 has let the channel pass. -/
theorem hostMicro_completes {s : State} (h : Inv s) : Completes s (hostMicro s) := by
  have operands := h.operands
  cases pos : s.hostPos
  case w1 c v =>
    rw [pos] at operands
    simp only [HostPos.operandsOk, Bool.and_eq_true, decide_eq_true_eq] at operands
    have store := memWrite_inside (s := s) (a := c - 1) (clampValue v) (by omega)
    simp only [hostMicro, pos, writeStore, store, andThen_next]
    exact .inl ⟨_, rfl⟩
  case st1 =>
    simp only [hostMicro, pos, startLatch]
    by_cases differ : s.dataPinCfg = s.markerPinCfg
    · rw [if_pos differ]
      exact .inr ⟨rfl, .inl differ⟩
    · rw [if_neg differ]
      exact .inl ⟨_, rfl⟩
  all_goals
    simp only [hostMicro, pos]
    exact .inl ⟨_, rfl⟩

theorem step_completes {s : State} (h : Inv s) : Completes s (step s) := by
  have engine : ∀ u, Completes s (engineMicro u) := fun u => .inl (engineMicro_answers u)
  rcases step_cases s with ⟨-, run⟩ | ⟨-, run⟩ | ⟨event, rest, -, -, run⟩ <;> rw [run]
  · exact hostMicro_completes h
  · exact engine s
  · have host := hostMicro_completes (h.setSchedule rest)
    have whole := fun i => exec_completes i (s.setSchedule rest)
    cases event with
    | command w =>
      cases code : decode (.formatH w) with
      | ok i =>
        rw [perform, runCommand_ok code]
        exact whole i
      | error reason =>
        simp only [perform, runCommand, code]
        exact .inl ⟨_, rfl⟩
    | tick => exact whole .tick
    | present w => exact .inl ⟨_, rfl⟩
    | tickPulse => exact .inl ⟨_, rfl⟩
    | hostStep => exact host
    | engineStep => exact engine _
    | hostOp =>
      rw [perform]
      cases select : hostSelected (s.setSchedule rest) with
      | none =>
        rw [hostOperation_unselected select]
        exact host
      | some i =>
        rw [hostOperation_selected select]
        exact (whole i).andThen fun t => t.setHostPos .idle
    | engineOp =>
      rw [perform]
      cases select : engineSelected (s.setSchedule rest) with
      | none =>
        rw [engineOperation_unselected select]
        exact engine _
      | some i =>
        rw [engineOperation_selected select]
        exact (whole i).andThen afterEngineOp
    | others => exact .inl ⟨_, rfl⟩

/-- Settles O57: a step answers, or refuses one pin for both lines. -/
theorem stepsComplete : Obligations.StepsComplete := by
  intro s h
  rcases step_completes h with ⟨t, next⟩ | ⟨refused, why⟩
  · rw [next]
    exact ⟨fun _ => by simp, fun _ => by simp, fun _ _ => ⟨t, rfl⟩⟩
  · rw [refused]
    refine ⟨fun _ => by simp, fun _ same => (Host.Outcome.refused.inj same).symm, fun param differ => ?_⟩
    rcases why with same | restarts
    · exact absurd same differ
    · rw [param] at restarts
      cases restarts

/-! ### The line levels and the trace -/

/-- DATA_LVL and MARKER_LVL are the levels of the last items that name the active pins (10_state.md R34). -/
def LinesFollow (s : State) : Prop :=
  s.dataLvl = levelOf (lastLevel s.dataPinAct s.trace) ∧ s.markerLvl = levelOf (lastLevel s.markerPinAct s.trace)

theorem lastLevel_append (pin : Pin) (t : List TraceItem) (item : TraceItem) :
    lastLevel pin (t ++ [item]) = (itemLevel pin item).or (lastLevel pin t) := by
  simp [lastLevel]

/-- The two items by which Start drives a pin. -/
theorem lastLevel_output (pin p : Pin) (t : List TraceItem) (l : Level) :
    lastLevel pin (t ++ [.out p, .edge p l]) = if p = pin then some l else lastLevel pin t := by
  rw [show t ++ [.out p, .edge p l] = (t ++ [.out p]) ++ [.edge p l] by simp, lastLevel_append, lastLevel_append]
  by_cases same : p = pin <;> simp [itemLevel, same]

theorem LinesFollow.driveData {s : State} (h : LinesFollow s) (differ : s.dataPinAct ≠ s.markerPinAct) (l : Level) (d : Nat)
    (hold : Hold) : LinesFollow (driveData s.dataPinAct l d hold s) := by
  constructor
  · simp [lastLevel_append, itemLevel, levelOf]
  · simpa [lastLevel_append, itemLevel, differ] using h.2

theorem LinesFollow.driveMarker {s : State} (h : LinesFollow s) (differ : s.dataPinAct ≠ s.markerPinAct) (l : Level) :
    LinesFollow (driveMarker l s) := by
  constructor
  · simpa [lastLevel_append, itemLevel, differ.symm] using h.1
  · simp [lastLevel_append, itemLevel, levelOf]

theorem LinesFollow.requestMask {s : State} (h : LinesFollow s) (b : Bool) : LinesFollow (requestMask b s) := by
  constructor
  · simpa [lastLevel_append, itemLevel] using h.1
  · simpa [lastLevel_append, itemLevel] using h.2

/-- ENGINE drives the lines with the items it emits. -/
theorem engineMicro_linesFollow {s t : State} (h : LinesFollow s) (differ : s.enginePos ≠ .idle → s.dataPinAct ≠ s.markerPinAct)
    (slotPin : ∀ pin, s.enginePos.slotPin = some pin → pin = s.dataPinAct) (e : engineMicro s = .next t) :
    LinesFollow t := by
  cases pos : s.enginePos <;> simp only [engineMicro, pos] at e <;> cases e <;> rw [pos] at differ slotPin
  case l0 =>
    obtain ⟨p, select⟩ := selectUnit_eq s
    rw [select]
    exact h
  case f1 => exact h.driveData (differ (by decide)) _ _ _
  case f2 => exact h.driveData (differ (by decide)) _ _ _
  case f3 => exact LinesFollow.requestMask (s := s.setTxb startCode) h true
  case s1 => exact h.driveMarker (differ (by decide)) _
  case s2 => exact ⟨by simpa [slotRead] using h.1, by simpa [slotRead] using h.2⟩
  case s3 b => exact LinesFollow.requestMask (s := s.setTxb b) h true
  case send p pin caller =>
    obtain rfl := slotPin pin rfl
    cases p with
    | b11 => exact h.requestMask false
    | _ => exact h.driveData (differ (by simp)) _ _ _
  case a1 n =>
    by_cases past : s.acc < n
    · rw [advanceTo, if_pos past]
      exact h.driveMarker (differ (by simp)) _
    · rw [advanceTo, if_neg past]
      exact h
  all_goals exact h

/-- The pin of the slot in progress after a micro-step of ENGINE: the active data pin, or as before. -/
theorem engineMicro_slotPin {s t : State} (e : engineMicro s = .next t) {pin : Pin}
    (slot : t.enginePos.slotPin = some pin) : pin = s.dataPinAct ∨ s.enginePos.slotPin = some pin := by
  cases pos : s.enginePos <;> simp only [engineMicro, pos] at e <;> cases e
  case idle =>
    rw [pos] at slot
    cases slot
  case l0 =>
    unfold selectUnit at slot
    split_ifs at slot <;> cases slot
  case f3 => exact .inl (Option.some.inj slot).symm
  case s3 b => exact .inl (Option.some.inj slot).symm
  case send p pin' caller =>
    refine .inr ?_
    cases p with
    | bit i =>
      simp only [afterSend, State.setEnginePos_enginePos] at slot
      split at slot <;> exact slot
    | b11 => cases caller <;> cases slot
    | _ => exact slot
  case a1 n =>
    rcases advanceTo_position n s with x0 | ⟨l0, -⟩
    · rw [x0] at slot
      cases slot
    · rw [l0] at slot
      cases slot
  all_goals cases slot

theorem levels_engineMicro {s t : State} (h : Inv s) (l : LevelsFollowTrace s) (e : engineMicro s = .next t) :
    LevelsFollowTrace t := by
  have k := engineMicro_keeps e
  by_cases idle : s.enginePos = .idle
  · simp only [engineMicro, idle, Host.Outcome.next.injEq] at e
    exact e ▸ l
  have outside : s.hostPos.inStart = false := by
    by_contra inStart
    exact idle (l.startAlone (by simpa using inStart))
  have follow : LinesFollow s := ⟨l.data fun pos => by simp [pos, HostPos.inStart] at outside,
    l.marker (fun pos => by simp [pos, HostPos.inStart] at outside) fun pos => by simp [pos, HostPos.inStart] at outside⟩
  have differ := h.pinsDiffer (.inl (h.driven (.inr (.inr idle))).1)
  obtain ⟨data, marker⟩ := engineMicro_linesFollow follow (fun _ => differ) l.slotPin e
  exact {
    sequential := k.params ▸ l.sequential
    startAlone := fun inStart => by simp [k.hostPos, outside] at inStart
    slotPin := fun pin slot => by
      rw [k.dataPinAct]
      rcases engineMicro_slotPin e slot with new | old
      · exact new
      · exact l.slotPin pin old
    data := fun _ => data
    marker := fun _ _ => marker }

/-- HOST moves while the engine is idle, so it is enough what the trace shows. -/
theorem levels_of_idle {s t : State} (l : LevelsFollowTrace s) (params : t.params = s.params) (idle : t.enginePos = .idle)
    (data : t.hostPos ≠ .st2 → t.dataLvl = levelOf (lastLevel t.dataPinAct t.trace))
    (marker : t.hostPos ≠ .st2 → t.hostPos ≠ .st3 → t.markerLvl = levelOf (lastLevel t.markerPinAct t.trace)) :
    LevelsFollowTrace t where
  sequential := params ▸ l.sequential
  startAlone := fun _ => idle
  slotPin := fun pin slot => by
    rw [idle] at slot
    cases slot
  data := data
  marker := marker

/-- HOST drives the lines in ST2 and ST3 with the items it emits, and no other micro-step of its touches them. -/
theorem levels_hostMicro {s t : State} (h : Inv s) (l : LevelsFollowTrace s) (may : hostMayStep s = true)
    (e : hostMicro s = .next t) : LevelsFollowTrace t := by
  have k := hostMicro_keeps e
  have idle := k.enginePos.trans ((hostMayStep_sequential l.sequential).mp may)
  have levels := levels_of_idle l k.params idle
  have data := l.data
  have marker := l.marker
  cases pos : s.hostPos <;> simp only [hostMicro, pos] at e <;> rw [pos] at data marker
  case st1 =>
    obtain ⟨u, -, move⟩ := andThen_eq_next.mp e
    cases move
    exact levels (by simp) (by simp)
  case st2 =>
    cases e
    exact levels (fun _ => by simp [startData, lastLevel_output, levelOf]) (by simp)
  case st3 =>
    have differ := h.pinsDiffer (.inl (h.dataDriven (.inr (by rw [pos]; rfl))))
    cases e
    refine levels (fun _ => ?_) (fun _ _ => by simp [startMarker, lastLevel_output, levelOf])
    simpa [startMarker, lastLevel_output, differ.symm] using data (by simp)
  case w1 c v =>
    obtain ⟨u, store, move⟩ := andThen_eq_next.mp e
    obtain ⟨-, rfl⟩ := memWrite_eq_next.mp store
    cases move
    exact levels (fun _ => data (by simp)) (fun _ _ => marker (by simp) (by simp))
  case idle =>
    cases e
    exact l
  all_goals
    cases e
    exact levels (fun _ => data (by simp)) (fun _ _ => marker (by simp) (by simp))

/-- Settles O55: each agent's micro-steps keep the levels and the trace in step. -/
theorem levelsFollowTraceKept : Obligations.LevelsFollowTraceKept := by
  intro s t h l e
  refine (step_keeps (P := fun u => Inv u ∧ LevelsFollowTrace u) (fun u rest hu => ?_) (fun u w i hu may idle code => ?_)
    (fun u hu accepted => ?_) (fun u v hu may micro => ?_) (fun u v hu micro => ?_) ⟨h, l⟩ e).2
  · exact ⟨hu.1.setSchedule rest, hu.2.sequential, hu.2.startAlone, hu.2.slotPin, hu.2.data, hu.2.marker⟩
  · refine ⟨hu.1.beginCommand idle code, levels_of_idle hu.2 rfl ((hostMayStep_sequential hu.2.sequential).mp may) ?_ ?_⟩
    · exact fun _ => hu.2.data (by simp [idle])
    · exact fun _ _ => hu.2.marker (by simp [idle]) (by simp [idle])
  · have outside : u.hostPos.inStart = false := by
      have life := hu.1.lifecycle
      have enabled := (tickAccepted_eq_true.mp accepted).1
      cases pos : u.hostPos <;> simp_all [HostPos.lifecycleOk, HostPos.inStart]
    exact ⟨hu.1.enterHandler accepted, hu.2.sequential, fun inStart => by simp [outside] at inStart,
      fun pin slot => by simp [EnginePos.slotPin] at slot, hu.2.data, hu.2.marker⟩
  · exact ⟨hostMicro_inv hu.1 may micro, levels_hostMicro hu.1 hu.2 may micro⟩
  · exact ⟨engineMicro_inv hu.1 micro, levels_engineMicro hu.1 hu.2 micro⟩

end Sys2Proof.Machine
end

section
/-! PROOFS. The invocation of a tick (42_frame_tick.md R150 to R158): that it reaches its exit, what one tick sends, and
what the ticks of a frame send (R160, R161). One lemma says what the loop does from a channel unit on; the rest is
sequencing. -/

namespace Sys2Proof.Machine

/-! ### The exit is reached -/

/-- Micro-steps from L0 to the exit with this much budget: eighteen for each round it can pay, one for the last
selection, one for the exit. -/
def loopSteps (budget : Nat) : Nat := 18 * (budget / 11) + 2

/-- Micro-steps from a position to the next L0. -/
def EnginePos.stepsToLoop : EnginePos → Nat
  | .f1 | .s1 => 17
  | .f2 | .s2 => 16
  | .f3 | .s3 _ => 15
  | .send .b1 _ _ => 14
  | .send (.bit i) _ _ => 13 - i
  | .send .b10 _ _ => 5
  | .send .b11 _ _ => 4
  | .f4 | .s4 => 3
  | .a0 => 2
  | .a1 _ | .e1 | .x0 => 1
  | .l0 | .idle => 0

/-- At most so many micro-steps of ENGINE until it is idle. -/
def stepsToExit (s : State) : Nat :=
  match s.enginePos with
  | .idle => 0
  | .x0 => 1
  | .e1 => 1 + loopSteps s.params.tickBudget
  | p => p.stepsToLoop + loopSteps (s.budget - p.charge)

/-- The invocation has ended. -/
def Exited (s : State) : Prop := s.enginePos = .idle ∧ s.guard = false

theorem stepsToExit_le (s : State) : stepsToExit s ≤ 18 * (max s.budget s.params.tickBudget / 11 + 3) := by
  have near : s.enginePos.stepsToLoop ≤ 17 := by
    unfold EnginePos.stepsToLoop
    split <;> omega
  unfold stepsToExit loopSteps
  split <;> omega

theorem stepsToExit_pos {s : State} (inside : s.enginePos ≠ .idle) : 0 < stepsToExit s := by
  unfold stepsToExit loopSteps
  split
  · exact absurd ‹_› inside
  all_goals omega

theorem loopSteps_charge {budget cost : Nat} (covers : cost ≤ budget) (unit : slotCost ≤ cost) :
    17 + loopSteps (budget - cost) < loopSteps budget := by
  simp only [loopSteps, slotCost] at *
  omega

/-- A micro-step of ENGINE is the exit, or brings it closer. -/
theorem engineMicro_progress {s t : State} (inside : s.enginePos ≠ .idle) (e : engineMicro s = .next t) :
    Exited t ∨ (t.enginePos ≠ .idle ∧ t.guard = s.guard ∧ stepsToExit t < stepsToExit s) := by
  cases pos : s.enginePos <;> simp only [engineMicro, pos] at e <;> cases e
  case idle => exact absurd pos inside
  case x0 => exact .inl ⟨rfl, rfl⟩
  case l0 =>
    refine .inr ?_
    unfold selectUnit stopHandler
    split_ifs with ts budget budget
    · simp [stepsToExit, pos, EnginePos.stepsToLoop, loopSteps]
    · have := loopSteps_charge (Nat.not_lt.mp budget) (by decide)
      simpa [stepsToExit, pos, EnginePos.stepsToLoop, EnginePos.charge] using this
    · simp [stepsToExit, pos, EnginePos.stepsToLoop, loopSteps]
    · have := loopSteps_charge (Nat.not_lt.mp budget) le_rfl
      simpa [stepsToExit, pos, EnginePos.stepsToLoop, EnginePos.charge] using this
  case a1 n =>
    refine .inr ?_
    by_cases past : s.acc < n
    · rw [advanceTo_ends past]
      simp [stepsToExit, pos, EnginePos.stepsToLoop, loopSteps]
    · rw [advanceTo_goes_on (Nat.not_lt.mp past)]
      simp [stepsToExit, pos, EnginePos.stepsToLoop, EnginePos.charge]
  case send p pin caller =>
    refine .inr ?_
    cases p with
    | bit i =>
      have last := i.isLt
      simp only [afterSend]
      split <;> cases caller <;>
        simp [stepsToExit, pos, EnginePos.stepsToLoop, EnginePos.charge, sendMicro, sendDataBit] <;> omega
    | _ =>
      cases caller <;> simp [stepsToExit, pos, afterSend, EnginePos.stepsToLoop, EnginePos.charge, sendMicro,
        sendStartBit, sendStopBits, sendRelease]
  all_goals
    refine .inr ⟨by simp [frameCharge, slotCharge, slotRead], ?_, ?_⟩
    · simp [frameBreak, frameMark, frameCharge, slotCharge, slotRead, sendLatch]
    · simp [stepsToExit, pos, EnginePos.stepsToLoop, EnginePos.charge, frameBreak, frameMark, frameCharge, slotCharge,
        slotRead, sendLatch]

/-- With nothing in between ENGINE reaches its exit. -/
theorem engineRun_exits {k : Nat} {s : State} (inside : s.enginePos ≠ .idle) (enough : stepsToExit s ≤ k) :
    ∃ t, microRun engineMicro k s = .next t ∧ Exited t := by
  induction k generalizing s with
  | zero => exact absurd (stepsToExit_pos inside) (by omega)
  | succ k ih =>
    obtain ⟨t, e⟩ := engineMicro_answers s
    rw [engineRun_next k e]
    rcases engineMicro_progress inside e with exited | ⟨inside', -, closer⟩
    · exact ⟨t, engineRun_idle k exited.1, exited⟩
    · exact ih inside' (by omega)

/-- Inside an invocation, at most so many micro-steps from its exit. -/
def ExitsWithin (bound : Nat) (s : State) : Prop := s.enginePos ≠ .idle ∧ s.guard = true ∧ stepsToExit s ≤ bound

theorem engineRun_progress {k bound : Nat} {s t : State} (h : ExitsWithin bound s)
    (e : microRun engineMicro k s = .next t) : Exited t ∨ ExitsWithin bound t := by
  refine microRun_keeps (P := fun u => Exited u ∨ ExitsWithin bound u) (fun u v hu micro => ?_) k s t (.inr h) e
  rcases hu with exited | ⟨inside, guard, within⟩
  · cases (engineMicro_idle exited.1).symm.trans micro
    exact .inl exited
  · rcases engineMicro_progress inside micro with exited | ⟨inside', guard', closer⟩
    · exact .inl exited
    · exact .inr ⟨inside', guard'.trans guard, by omega⟩

/-- HOST changes nothing the exit depends on. -/
theorem hostRun_progress {k bound : Nat} {s t : State} (h : ExitsWithin bound s)
    (e : microRun hostMicro k s = .next t) : ExitsWithin bound t := by
  have keeps := microRun_host_keeps e
  have same : stepsToExit t = stepsToExit s := by
    simp only [stepsToExit, keeps.enginePos, keeps.budget, keeps.params]
  exact ⟨keeps.enginePos ▸ h.1, keeps.guard.trans h.2.1, same ▸ h.2.2⟩

/-- A step inside an invocation ends it, or takes a micro-step of ENGINE towards the exit, or takes an entry off the
schedule. -/
theorem step_progress {s t : State} {bound : Nat} (h : ExitsWithin bound s) (e : step s = .next t) :
    Exited t ∨ (∃ fewer, ExitsWithin fewer t ∧ t.schedule.length + fewer < s.schedule.length + bound) := by
  rcases step_cases s with ⟨idle, -⟩ | ⟨-, run⟩ | ⟨event, rest, head, admitted, run⟩
  · exact absurd idle h.1
  · rcases engineMicro_progress h.1 (run.symm.trans e) with exited | ⟨inside, guard, closer⟩
    · exact .inl exited
    · refine .inr ⟨stepsToExit t, ⟨inside, guard.trans h.2.1, le_rfl⟩, ?_⟩
      have same := (engineMicro_keeps (run.symm.trans e)).schedule
      have := h.2.2
      rw [same]
      omega
  · have popped : ExitsWithin bound (s.setSchedule rest) := h
    have admitted' : admissible event (s.setSchedule rest) = true := by cases event <;> exact admitted
    have within : Exited t ∨ (ExitsWithin bound t ∧ t.schedule = rest) := by
      cases perform_microRow admitted' with
      | host k may row =>
        have micros := row.symm.trans (run.symm.trans e)
        exact .inr ⟨hostRun_progress popped micros, (microRun_host_keeps micros).schedule⟩
      | command k may idle w i code row =>
        have micros := row.symm.trans (run.symm.trans e)
        exact .inr ⟨hostRun_progress (s := (s.setSchedule rest).setHostPos (commandPos i)) h micros,
          (microRun_host_keeps micros).schedule⟩
      | engine k row =>
        have micros := row.symm.trans (run.symm.trans e)
        exact (engineRun_progress popped micros).imp_right fun w => ⟨w, (microRun_engine_keeps micros).schedule⟩
      | tick k accepted row =>
        rw [tickAccepted_eq_true] at accepted
        cases accepted.2.1.symm.trans h.2.1
    rcases within with exited | ⟨within, schedule⟩
    · exact .inl exited
    · refine .inr ⟨bound, within, ?_⟩
      rw [schedule, head, List.length_cons]
      omega

/-- A run that goes on long enough has ended the invocation. -/
theorem run_exits {k bound : Nat} {s u : State} (h : ExitsWithin bound s) (enough : s.schedule.length + bound ≤ k)
    (e : microRun step k s = .next u) : ∃ j, j ≤ k ∧ ∃ t, microRun step j s = .next t ∧ Exited t := by
  induction k generalizing s bound with
  | zero =>
    have := stepsToExit_pos h.1
    have := h.2.2
    omega
  | succ k ih =>
    obtain ⟨t, first, rest⟩ := andThen_eq_next.mp e
    rcases step_progress h first with exited | ⟨fewer, within, less⟩
    · exact ⟨1, by omega, t, (microRun_one step s).trans first, exited⟩
    · obtain ⟨j, le, v, run, exited⟩ := ih within (by omega) rest
      exact ⟨j + 1, by omega, v, by rw [microRun_succ, first, andThen_next, run], exited⟩

/-- Settles O38: every micro-step of ENGINE brings the exit closer, and the other agents' steps only use up the
schedule. -/
theorem invocationReachesItsExit : Obligations.InvocationReachesItsExit := by
  refine ⟨engineMicro_answers, fun s k inside steps => ⟨?_, fun guard u run => ?_⟩⟩
  · exact engineRun_exits inside (steps ▸ stepsToExit_le s)
  · exact run_exits ⟨inside, guard, stepsToExit_le s⟩ (by omega) run

end Sys2Proof.Machine
end

section
/-! PROOFS. What a tick sends, and what the ticks of a frame send (42_frame_tick.md R153, R157, R160, R161). One lemma
says what the loop sends from a channel unit on; a tick, and a row of ticks, are sequencing of it. -/

namespace Sys2Proof.Machine

/-! ### The items of channel units -/

/-- The items of channel units depend on the buffer and the active pins alone. -/
theorem channelsItems_congr {s t : State} (buf : t.buf = s.buf) (data : t.dataPinAct = s.dataPinAct)
    (marker : t.markerPinAct = s.markerPinAct) (k m : Nat) : channelsItems t k m = channelsItems s k m := by
  induction m generalizing k with
  | zero => rfl
  | succ m ih => rw [channelsItems, channelsItems, ih, buf, data, marker]

theorem channelsItems_add (s : State) (k a b : Nat) :
    channelsItems s k (a + b) = channelsItems s k a ++ channelsItems s (k + a) b := by
  induction a generalizing k with
  | zero => simp [channelsItems]
  | succ a ih =>
    rw [show a + 1 + b = (a + b) + 1 by omega, channelsItems, channelsItems, ih, List.append_assoc,
      show k + 1 + a = k + (a + 1) by omega]

/-! ### What a run of whole units leaves -/

/-- ENGINE has sent these items and left TS here: the host's part is as it was, no slot is open, no free byte was read,
and the data line is as it was or high. -/
structure Sends (s t : State) (items : List TraceItem) (ts : Nat) : Prop where
  keeps : EngineKeeps s t
  trace : t.trace = s.trace ++ items
  ts : t.ts = ts
  mask : t.irqMask = false
  data : t.dataLvl = s.dataLvl ∨ t.dataLvl = .driven .high
  stray : t.strayReads = s.strayReads

theorem Sends.trans {s t u : State} {first second : List TraceItem} {ts ts' : Nat} (h : Sends s t first ts)
    (k : Sends t u second ts') : Sends s u (first ++ second) ts' where
  keeps := h.keeps.trans k.keeps
  trace := by rw [k.trace, h.trace, List.append_assoc]
  ts := k.ts
  mask := k.mask
  data := by
    rcases k.data with same | high
    · rw [same]
      exact h.data
    · exact .inr high
  stray := k.stray.trans h.stray

/-- A channel unit with the budget for it, up to its ADVANCE. -/
theorem performUnit_channel {s : State} (low : s.ts ≠ 0) (high : s.ts ≤ s.params.n) (budget : slotCost ≤ s.budget) :
    ∃ t, performUnit s = .next t ∧ t.enginePos = .a0 ∧ t.budget = s.budget - slotCost ∧
      Sends s t (channelItems s.dataPinAct s.markerPinAct (cellRead s.buf (s.ts - 1))) s.ts := by
  refine ⟨_, (performUnit_slot low).trans (execChannelSlot_commits budget (by omega) high), rfl, rfl, ?_⟩
  exact ⟨by constructor <;> simp, rfl, rfl, rfl, .inr rfl, rfl⟩

/-- ADVANCE at the end of a frame. -/
theorem advanceTo_sends_edge {n : Nat} {s : State} (past : s.acc < n) (mask : s.irqMask = false) :
    Sends s (advanceTo n s) [.edge s.markerPinAct .high] 0 ∧ (advanceTo n s).markerLvl = .driven .high ∧
      (advanceTo n s).enginePos = .x0 ∧ (advanceTo n s).budget = s.budget := by
  have keeps := advanceTo_keeps n s
  rw [advanceTo_ends past] at keeps ⊢
  exact ⟨⟨keeps, rfl, rfl, mask, .inl rfl, rfl⟩, rfl, rfl, rfl⟩

/-- ADVANCE inside a frame. -/
theorem advanceTo_sends_nothing {n : Nat} {s : State} (inFrame : n ≤ s.acc) (mask : s.irqMask = false) :
    Sends s (advanceTo n s) [] n ∧ (advanceTo n s).enginePos = .l0 ∧ (advanceTo n s).budget = s.budget := by
  have keeps := advanceTo_keeps n s
  rw [advanceTo_goes_on inFrame] at keeps ⊢
  exact ⟨⟨keeps, by simp, rfl, mask, .inl rfl, rfl⟩, rfl, rfl⟩

/-- Channels a frame has left from this TS on; at least the one of TS itself (D24). -/
def channelsLeft (s : State) : Nat := max (s.acc + 1 - s.ts) 1

/-- The closing edge of the marker, if the frame is complete. -/
def closing (s : State) (complete : Prop) [Decidable complete] : List TraceItem :=
  if complete then [.edge s.markerPinAct .high] else []

/-- The loop from a channel unit on: as many channels as the budget covers and the frame has left, then the closing
edge if none is left. -/
theorem handlerLoop_channels (fuel : Nat) {s : State} (low : s.ts ≠ 0) (high : s.ts ≤ s.params.n)
    (acc : s.acc ≤ s.params.n) (mask : s.irqMask = false) (enough : s.budget / 11 < fuel) {m : Nat}
    (sent : m = min (s.budget / 11) (channelsLeft s)) :
    ∃ t, handlerLoop fuel s = .next t ∧
      Sends s t (channelsItems s (s.ts - 1) m ++ closing s (m = channelsLeft s))
        (if m = channelsLeft s then 0 else s.ts + m) ∧
      t.budget = s.budget - 11 * m ∧ (m = channelsLeft s → t.markerLvl = .driven .high) := by
  induction fuel generalizing s m with
  | zero => exact absurd enough (Nat.not_lt_zero _)
  | succ fuel ih =>
    by_cases budget : s.budget < slotCost
    · have unit := (performUnit_slot low).trans (execChannelSlot_defers budget)
      have none : m = 0 := by
        simp only [slotCost] at budget
        omega
      have some : 0 ≠ channelsLeft s := by
        unfold channelsLeft
        omega
      subst none
      rw [handlerLoop_of_deferred fuel unit rfl, closing, if_neg some, if_neg some]
      exact ⟨_, rfl, ⟨by constructor <;> simp, by simp [channelsItems], rfl, mask, .inl rfl, rfl⟩, rfl,
        fun all => absurd all some⟩
    · have covers : slotCost ≤ s.budget := Nat.not_lt.mp budget
      obtain ⟨u, unit, a0, left, sends⟩ := performUnit_channel low high covers
      rw [handlerLoop_of_performed fuel unit a0, sends.ts]
      simp only [slotCost] at covers left
      by_cases past : s.acc < s.ts + 1
      · obtain ⟨edge, marker, x0, same⟩ := advanceTo_sends_edge (n := s.ts + 1) (sends.keeps.acc ▸ past) sends.mask
        have last : channelsLeft s = 1 := by
          unfold channelsLeft
          omega
        have one : m = 1 := by omega
        have all := sends.trans edge
        rw [unlessStopped, if_pos x0, one, last, closing, if_pos rfl, if_pos rfl]
        refine ⟨_, rfl, ?_, by rw [same, left], fun _ => marker⟩
        rw [sends.keeps.markerPinAct] at all
        simpa [channelsItems] using all
      · obtain ⟨next, l0, same⟩ := advanceTo_sends_nothing (n := s.ts + 1) (s := u)
          (by rw [sends.keeps.acc]; omega) sends.mask
        have so_far := sends.trans next
        generalize advanceTo (s.ts + 1) u = v at *
        have k := so_far.keeps
        have left_v : channelsLeft v + 1 = channelsLeft s := by
          rw [channelsLeft, channelsLeft, so_far.ts, k.acc]
          omega
        obtain ⟨t, run, rest, budget_t, marker⟩ := ih (s := v) (m := m - 1) (by rw [so_far.ts]; omega)
          (by rw [so_far.ts, k.params]; omega) (by rw [k.acc, k.params]; exact acc) so_far.mask (by omega) (by omega)
        have whole := so_far.trans rest
        have complete : m - 1 = channelsLeft v ↔ m = channelsLeft s := by omega
        rw [unlessStopped, if_neg (by simp [l0])]
        refine ⟨t, run, ?_, by omega, fun all => marker (complete.mpr all)⟩
        have items : channelsItems s (s.ts - 1) m =
            channelItems s.dataPinAct s.markerPinAct (cellRead s.buf (s.ts - 1)) ++ channelsItems s s.ts (m - 1) := by
          obtain ⟨j, rfl⟩ : ∃ j, m = j + 1 := ⟨m - 1, by omega⟩
          rw [channelsItems, show s.ts - 1 + 1 = s.ts by omega]
          rfl
        rw [channelsItems_congr k.buf k.dataPinAct k.markerPinAct, so_far.ts, Nat.add_sub_cancel,
          show s.ts + 1 + (m - 1) = s.ts + m by omega] at whole
        simpa only [items, closing, complete, k.markerPinAct, List.append_nil, List.append_assoc] using whole

/-! ### One tick -/

/-- Ticks have sent these items and left TS here, and GUARD is open for the next one. -/
structure Ticked (s t : State) (items : List TraceItem) (ts : Nat) : Prop extends Sends s t items ts where
  guard : t.guard = false

/-- The entry and the exit send nothing. -/
theorem Sends.ticked {s t : State} {items : List TraceItem} {ts : Nat} (h : Sends (takeTick s) t items ts) :
    Ticked s (exitHandler t) items ts where
  keeps := ⟨h.keeps.params, h.keeps.buf, h.keeps.acc, h.keeps.started, h.keeps.tickEn, h.keeps.dataPinCfg,
    h.keeps.markerPinCfg, h.keeps.dataPinAct, h.keeps.markerPinAct, h.keeps.hostPos, h.keeps.schedule, h.keeps.trace⟩
  trace := h.trace
  ts := h.ts
  mask := h.mask
  data := h.data
  stray := h.stray
  guard := rfl

theorem Ticked.accepted {s t : State} {items : List TraceItem} {ts : Nat} (h : Ticked s t items ts)
    (accepted : tickAccepted s = true) : tickAccepted t = true :=
  tickAccepted_eq_true.mpr ⟨h.keeps.tickEn.trans (tickAccepted_eq_true.mp accepted).1, h.guard, h.mask⟩

theorem Ticked.trans {s t u : State} {first second : List TraceItem} {ts ts' : Nat} (h : Ticked s t first ts)
    (k : Ticked t u second ts') : Ticked s u (first ++ second) ts' :=
  ⟨h.toSends.trans k.toSends, k.guard⟩

/-- No tick yet. -/
theorem Ticked.refl {s : State} (accepted : tickAccepted s = true) : Ticked s s [] s.ts :=
  ⟨⟨.refl s, by simp, rfl, (tickAccepted_eq_true.mp accepted).2.2, .inl rfl, rfl⟩,
    (tickAccepted_eq_true.mp accepted).2.1⟩

/-- An accepted tick ends its invocation. -/
theorem exec_tick_idle {s t : State} (accepted : tickAccepted s = true) (e : exec .tick s = .next t) :
    t.enginePos = .idle := by
  rw [exec_tick_of_accepted accepted] at e
  obtain ⟨u, -, exit⟩ := andThen_eq_next.mp e
  cases exit
  rfl

/-- The loop of an accepted tick, between its entry and its exit. -/
theorem exec_tick_of_loop {s t : State} (accepted : tickAccepted s = true)
    (loop : handlerLoop (s.params.tickBudget / 11 + 1) (takeTick s) = .next t) :
    exec .tick s = .next (exitHandler t) := by
  rw [exec_tick_of_accepted accepted]
  change andThen (handlerLoop (s.params.tickBudget / 11 + 1) (takeTick s)) _ = _
  rw [loop, andThen_next]

/-- A tick inside a frame. -/
theorem exec_tick_channels {s : State} (accepted : tickAccepted s = true) (low : s.ts ≠ 0) (high : s.ts ≤ s.params.n)
    (acc : s.acc ≤ s.params.n) {m : Nat} (sent : m = min (s.params.tickBudget / 11) (channelsLeft s)) :
    ∃ t, exec .tick s = .next t ∧
      Ticked s t (channelsItems s (s.ts - 1) m ++ closing s (m = channelsLeft s))
        (if m = channelsLeft s then 0 else s.ts + m) ∧
      t.budget = s.params.tickBudget - 11 * m ∧ (m = channelsLeft s → t.markerLvl = .driven .high) := by
  obtain ⟨t, loop, sends, budget, marker⟩ := handlerLoop_channels (s.params.tickBudget / 11 + 1) (s := takeTick s) low high
    acc (tickAccepted_eq_true.mp accepted).2.2 (Nat.lt_succ_self _) sent
  rw [channelsItems_congr (s := s) (t := takeTick s) rfl rfl rfl] at sends
  exact ⟨_, exec_tick_of_loop accepted loop, sends.ticked, budget, marker⟩

/-- The frame-start unit with the budget for it, up to its ADVANCE. -/
theorem performUnit_frameStart {s : State} (ts : s.ts = 0) (budget : frameStartCost ≤ s.budget) :
    ∃ t, performUnit s = .next t ∧ t.enginePos = .a0 ∧ t.budget = s.budget - frameStartCost ∧
      t.dataLvl = .driven .high ∧ Sends s t (frameStartItems s.params s.dataPinAct) 0 := by
  refine ⟨_, (performUnit_frame ts).trans (execFrameStart_commits budget), rfl, rfl, rfl, ?_⟩
  exact ⟨by constructor <;> simp, rfl, ts, rfl, .inr rfl, rfl⟩

/-- A tick that begins a frame. -/
theorem exec_tick_frameStart {s : State} (accepted : tickAccepted s = true) (ts : s.ts = 0) (acc : s.acc ≤ s.params.n)
    (budget : 35 ≤ s.params.tickBudget) {m : Nat} (sent : m = min ((s.params.tickBudget - 35) / 11) s.acc) :
    ∃ t, exec .tick s = .next t ∧
      Ticked s t (frameStartItems s.params s.dataPinAct ++ channelsItems s 0 m ++ closing s (m = s.acc))
        (if m = s.acc then 0 else m + 1) ∧
      t.budget = s.params.tickBudget - 35 - 11 * m ∧ t.dataLvl = .driven .high ∧
      (m = s.acc → t.markerLvl = .driven .high) := by
  obtain ⟨u, unit, a0, left, line, sends⟩ := performUnit_frameStart (s := takeTick s) ts budget
  have loop := handlerLoop_of_performed (s.params.tickBudget / 11) unit a0
  rw [sends.ts] at loop
  have acc_u : u.acc = s.acc := sends.keeps.acc
  by_cases empty : s.acc = 0
  · obtain ⟨edge, marker, x0, same⟩ := advanceTo_sends_edge (n := 0 + 1) (s := u) (by omega) sends.mask
    have none : m = 0 := by omega
    have whole := sends.trans edge
    rw [unlessStopped, if_pos x0] at loop
    refine ⟨_, exec_tick_of_loop accepted loop, ?_, ?_, ?_, fun _ => marker⟩
    · rw [sends.keeps.markerPinAct] at whole
      simpa [none, empty, closing, channelsItems] using whole.ticked
    · rw [none]
      exact same.trans left
    · rcases edge.data with same | high
      · exact same.trans line
      · exact high
  · obtain ⟨next, l0, same⟩ := advanceTo_sends_nothing (n := 0 + 1) (s := u) (by omega) sends.mask
    have so_far := sends.trans next
    have line_v : (advanceTo (0 + 1) u).dataLvl = .driven .high := by
      rcases next.data with same | high
      · exact same.trans line
      · exact high
    rw [unlessStopped, if_neg (by simp [l0])] at loop
    generalize advanceTo (0 + 1) u = v at *
    have k := so_far.keeps
    have left_v : channelsLeft v = s.acc := by
      rw [channelsLeft, so_far.ts, k.acc]
      simp only [takeTick_acc]
      omega
    have budget_v : v.budget = s.params.tickBudget - 35 := same.trans left
    obtain ⟨t, run, rest, budget_t, marker⟩ := handlerLoop_channels (s.params.tickBudget / 11) (s := v) (m := m)
      (by rw [so_far.ts]; omega) (by rw [so_far.ts, k.params]; simp only [takeTick_params]; omega)
      (by rw [k.acc, k.params]; exact acc) so_far.mask (by omega) (by rw [left_v, budget_v]; exact sent)
    have whole := so_far.trans rest
    rw [run] at loop
    refine ⟨_, exec_tick_of_loop accepted loop, ?_, ?_, ?_, fun all => marker (by omega)⟩
    · rw [channelsItems_congr (s := s) k.buf k.dataPinAct k.markerPinAct, so_far.ts, left_v] at whole
      simpa [closing, k.markerPinAct, Nat.add_comm] using whole.ticked
    · rw [exitHandler_budget, budget_t, budget_v]
    · rcases rest.data with same | high
      · exact same.trans line_v
      · exact high

/-- A tick whose budget does not cover the first unit. -/
theorem exec_tick_starved {s : State} (accepted : tickAccepted s = true)
    (starved : (s.ts = 0 ∧ s.params.tickBudget < 35) ∨ (s.ts ≠ 0 ∧ s.params.tickBudget < 11)) :
    exec .tick s = .next { s with budget := s.params.tickBudget, guard := false, enginePos := .idle } := by
  have unit : performUnit (takeTick s) = .next { takeTick s with enginePos := .x0 } := by
    rcases starved with ⟨ts, budget⟩ | ⟨ts, budget⟩
    · exact (performUnit_frame (s := takeTick s) ts).trans (execFrameStart_defers (s := takeTick s) budget)
    · exact (performUnit_slot (s := takeTick s) ts).trans (execChannelSlot_defers (s := takeTick s) budget)
  exact exec_tick_of_loop accepted (handlerLoop_of_deferred _ unit rfl)

/-- Settles O39. -/
theorem budgetTooSmall : Obligations.BudgetTooSmall := fun _ accepted starved => exec_tick_starved accepted starved

/-- Settles O40: the slot of channel TS, and an ADVANCE that ends the frame. -/
theorem loweredCountEndsTheFrame : Obligations.LoweredCountEndsTheFrame := by
  intro s accepted above high budget
  have unit := (performUnit_slot (s := takeTick s) (by simp only [takeTick_ts]; omega)).trans
    (execChannelSlot_commits (s := takeTick s) budget (by simp only [takeTick_ts]; omega) high)
  have loop := handlerLoop_of_performed (s.params.tickBudget / 11) unit rfl
  rw [advanceTo_ends (by simp only [takeTick_ts, takeTick_acc]; omega), unlessStopped, if_pos rfl] at loop
  rw [exec_tick_of_loop accepted loop]
  refine congrArg Host.Outcome.next ?_
  apply State.ext
  case irqMask => exact (tickAccepted_eq_true.mp accepted).2.2.symm
  case trace => simp [State.bufAt]
  all_goals rfl

end Sys2Proof.Machine
end

section
/-! PROOFS. The tick, the frame and the byte on the wire as statements (42_frame_tick.md; 95_test_vectors.md X1), from
what one tick sends. -/

namespace Sys2Proof.Machine

/-! ### Masks and breaks in the items of units -/

theorem count_mask_slotItems (b : Bool) (pin : Pin) (v : Byte) : (slotItems pin v).count (.mask b) = 1 := by
  cases b <;> simp [slotItems]

/-- A break is no item of a slot, whose levels are held exactly. -/
theorem count_break_slotItems (p pin : Pin) (l : Level) (d : Nat) (v : Byte) :
    (slotItems pin v).count (.seg p l d .atleast) = 0 :=
  List.count_eq_zero.mpr fun mem => by cases (seg_mem_slotItems mem).2

theorem count_mask_frameStartItems (b : Bool) (p : Params) (pin : Pin) :
    (frameStartItems p pin).count (.mask b) = 1 := by
  simp [frameStartItems, count_mask_slotItems]

theorem count_break_frameStartItems (p : Params) (pin : Pin) (d : Nat) :
    (frameStartItems p pin).count (.seg pin .low d .atleast) ≤ 1 := by
  simp only [frameStartItems, List.count_cons, count_break_slotItems, beq_iff_eq, TraceItem.seg.injEq, reduceCtorEq,
    false_and, and_false, if_false]
  split <;> omega

theorem count_mask_channelsItems (b : Bool) (s : State) (k m : Nat) : (channelsItems s k m).count (.mask b) = m := by
  induction m generalizing k with
  | zero => rfl
  | succ m ih => simp [channelsItems, channelItems, count_mask_slotItems, ih, Nat.add_comm]

theorem count_break_channelsItems (s : State) (k m : Nat) (p : Pin) (l : Level) (d : Nat) :
    (channelsItems s k m).count (.seg p l d .atleast) = 0 := by
  induction m generalizing k with
  | zero => rfl
  | succ m ih => simp [channelsItems, channelItems, count_break_slotItems, ih]

theorem count_mask_closing (b : Bool) (s : State) (c : Prop) [Decidable c] : (closing s c).count (.mask b) = 0 := by
  unfold closing
  split <;> simp

theorem count_break_closing (s : State) (c : Prop) [Decidable c] (p : Pin) (l : Level) (d : Nat) :
    (closing s c).count (.seg p l d .atleast) = 0 := by
  unfold closing
  split <;> simp

/-! ### One tick -/

/-- What a tick from `s` has sent and left in `t`: nothing where it is starved at TS = 0; the frame-start unit and
channels; or, inside a frame, channels. -/
def SendsWholeUnits (s t : State) (items : List TraceItem) : Prop :=
  (s.ts = 0 → s.params.tickBudget < 35 → items = [] ∧ t.ts = 0 ∧ t.budget = s.params.tickBudget) ∧
  (s.ts = 0 → 35 ≤ s.params.tickBudget → ∃ m, m = min ((s.params.tickBudget - 35) / 11) s.acc ∧
    items = frameStartItems s.params s.dataPinAct ++ channelsItems s 0 m ++ closing s (m = s.acc) ∧
    t.ts = (if m = s.acc then 0 else m + 1) ∧ t.budget = s.params.tickBudget - 35 - 11 * m) ∧
  (s.ts ≠ 0 → ∃ m left, left = channelsLeft s ∧ m = min (s.params.tickBudget / 11) left ∧
    items = channelsItems s (s.ts - 1) m ++ closing s (m = left) ∧
    t.ts = (if m = left then 0 else s.ts + m) ∧ t.budget = s.params.tickBudget - 11 * m)

/-- An accepted tick sends whole units, in each of the three cases. -/
theorem exec_tick_wholeUnits {s : State} (accepted : tickAccepted s = true) (acc : s.acc ≤ s.params.n)
    (high : s.ts ≤ s.params.n) : ∃ t items, exec .tick s = .next t ∧ Ticked s t items t.ts ∧ t.ts ≤ s.params.n ∧
      t.budget ≤ s.params.tickBudget ∧ SendsWholeUnits s t items := by
  by_cases ts : s.ts = 0
  · by_cases budget : s.params.tickBudget < 35
    · refine ⟨_, [], exec_tick_starved accepted (.inl ⟨ts, budget⟩), ?_, high, le_rfl, fun _ _ => ⟨rfl, ts, rfl⟩,
        fun _ covers => absurd budget (Nat.not_lt.mpr covers), fun low => absurd ts low⟩
      exact ⟨⟨by constructor <;> simp, by simp, rfl, (tickAccepted_eq_true.mp accepted).2.2, .inl rfl, rfl⟩, rfl⟩
    · obtain ⟨t, run, ticked, left, -, -⟩ := exec_tick_frameStart accepted ts acc (Nat.not_lt.mp budget) rfl
      refine ⟨t, _, run, ticked.ts.symm ▸ ticked, ?_, by omega, fun _ starved => absurd starved budget,
        fun _ _ => ⟨_, rfl, rfl, ticked.ts, left⟩, fun low => absurd ts low⟩
      rw [ticked.ts]
      split <;> omega
  · obtain ⟨t, run, ticked, left, -⟩ := exec_tick_channels accepted ts high acc rfl
    refine ⟨t, _, run, ticked.ts.symm ▸ ticked, ?_, by omega, fun zero => absurd zero ts, fun zero => absurd zero ts,
      fun _ => ⟨_, _, rfl, rfl, rfl, ticked.ts, left⟩⟩
    rw [ticked.ts, channelsLeft]
    split <;> omega

/-- Whole units hold every mask window closed, and the frame-start unit alone breaks the line. -/
theorem SendsWholeUnits.counts {s t : State} {items : List TraceItem} (h : SendsWholeUnits s t items) :
    items.count (.mask true) ≤ 1 + s.params.tickBudget / 11 ∧
      items.count (.mask false) = items.count (.mask true) ∧
      items.count (.seg s.dataPinAct .low s.params.breakBits .atleast) ≤ 1 := by
  obtain ⟨starved, frame, channels⟩ := h
  by_cases ts : s.ts = 0
  · by_cases budget : s.params.tickBudget < 35
    · obtain ⟨rfl, -⟩ := starved ts budget
      simp
    · obtain ⟨m, sent, rfl, -⟩ := frame ts (Nat.not_lt.mp budget)
      clear starved frame channels
      simp only [List.count_append, count_mask_frameStartItems, count_mask_channelsItems, count_mask_closing,
        count_break_channelsItems, count_break_closing]
      exact ⟨by omega, trivial, count_break_frameStartItems _ _ _⟩
  · obtain ⟨m, left, -, sent, rfl, -⟩ := channels ts
    clear starved frame channels
    simp only [List.count_append, count_mask_channelsItems, count_mask_closing, count_break_channelsItems,
      count_break_closing]
    exact ⟨by omega, trivial, Nat.zero_le 1⟩

/-- Settles O37: a tick sends whole units, and leaves what ENGINE leaves. -/
theorem tickCompletes : Obligations.TickCompletes := by
  intro s accepted acc high line
  obtain ⟨t, items, run, ticked, range, budget, units⟩ := exec_tick_wholeUnits accepted acc high
  obtain ⟨starved, frame, channels⟩ := units
  obtain ⟨masks, unmasks, breaks⟩ := SendsWholeUnits.counts ⟨starved, frame, channels⟩
  have keeps := ticked.keeps
  have line' : t.dataLvl = .driven .high := by
    rcases ticked.data with same | high
    · exact same.trans line
    · exact high
  exact ⟨t, items, run, ticked.trace, ticked.guard, exec_tick_idle accepted run, ticked.mask, line', budget, range,
    starved, frame, channels, masks, unmasks, breaks, keeps.buf, keeps.acc, keeps.started, keeps.tickEn, keeps.params,
    keeps.dataPinCfg, keeps.markerPinCfg, keeps.dataPinAct, keeps.markerPinAct, keeps.hostPos, keeps.schedule,
    ticked.stray⟩

/-! ### Rows of ticks -/

/-- The last of the ticks that send `left` channels, `c` a tick. -/
theorem lastTick {left c : Nat} (some : 0 < left) (rate : 0 < c) :
    ∃ j, (left + c - 1) / c = j + 1 ∧ c * j < left ∧ left ≤ c * j + c := by
  refine ⟨(left - 1) / c, ?_, ?_, ?_⟩
  · rw [show left + c - 1 = left - 1 + c by omega, Nat.add_div_right _ rate]
  · have := Nat.mul_div_le (left - 1) c
    omega
  · have := Nat.lt_mul_div_succ (left - 1) rate
    rw [Nat.mul_add, Nat.mul_one] at this
    omega

section
variable {s : State} (accepted : tickAccepted s = true) (low : s.ts ≠ 0) (high : s.ts ≤ s.params.n)
  (acc : s.acc ≤ s.params.n)
include accepted low high acc

/-- Ticks inside a frame that leave it channels to send: each sends as many as its budget covers. -/
theorem ticks_inFrame {j : Nat} (more : laterTickChannels s.params.tickBudget * j < channelsLeft s) :
    ∃ u, microRun (exec .tick) j s = .next u ∧
      Ticked s u (channelsItems s (s.ts - 1) (laterTickChannels s.params.tickBudget * j))
        (s.ts + laterTickChannels s.params.tickBudget * j) := by
  induction j with
  | zero => exact ⟨s, rfl, Ticked.refl accepted⟩
  | succ j ih =>
    rw [Nat.mul_succ] at more ⊢
    obtain ⟨u, run, ticked⟩ := ih (by omega)
    generalize laterTickChannels s.params.tickBudget * j = sent at *
    have k := ticked.keeps
    have left : channelsLeft u = channelsLeft s - sent := by
      simp only [channelsLeft, ticked.ts, k.acc] at more ⊢
      omega
    have covered : laterTickChannels s.params.tickBudget =
        min (u.params.tickBudget / 11) (channelsLeft u) := by
      rw [k.params, left, laterTickChannels, slotCost] at *
      omega
    obtain ⟨t, tick, next, -⟩ := exec_tick_channels (ticked.accepted accepted) (by rw [ticked.ts]; omega)
      (by simp only [ticked.ts, k.params, channelsLeft] at more ⊢; omega) (by rw [k.acc, k.params]; exact acc) covered
    have more' : laterTickChannels s.params.tickBudget ≠ channelsLeft u := by omega
    have whole := ticked.trans next
    rw [if_neg more', closing, if_neg more', ticked.ts, channelsItems_congr k.buf k.dataPinAct k.markerPinAct,
      List.append_nil, show s.ts + sent - 1 = s.ts - 1 + sent by omega, ← channelsItems_add, Nat.add_assoc] at whole
    refine ⟨t, ?_, whole⟩
    rw [microRun_add, run, andThen_next, microRun_one, tick]

/-- The ticks that complete a frame in progress: they send the channels it has left, and the closing edge. -/
theorem ticks_complete_frame (rate : 11 ≤ s.params.tickBudget) :
    ∃ t, microRun (exec .tick) ((channelsLeft s + laterTickChannels s.params.tickBudget - 1) /
        laterTickChannels s.params.tickBudget) s = .next t ∧
      Ticked s t (channelsItems s (s.ts - 1) (channelsLeft s) ++ [.edge s.markerPinAct .high]) 0 ∧
      t.markerLvl = .driven .high := by
  have some : 0 < channelsLeft s := by
    unfold channelsLeft
    omega
  have pays : 0 < laterTickChannels s.params.tickBudget := by
    simp only [laterTickChannels, slotCost]
    omega
  obtain ⟨j, number, more, last⟩ := lastTick some pays
  obtain ⟨u, run, ticked⟩ := ticks_inFrame accepted low high acc more
  rw [number]
  generalize laterTickChannels s.params.tickBudget * j = sent at *
  have k := ticked.keeps
  have left : channelsLeft u = channelsLeft s - sent := by
    simp only [channelsLeft, ticked.ts, k.acc] at more ⊢
    omega
  have covered : channelsLeft u = min (u.params.tickBudget / 11) (channelsLeft u) := by
    rw [k.params, left, laterTickChannels, slotCost] at *
    omega
  obtain ⟨t, tick, next, -, marker⟩ := exec_tick_channels (ticked.accepted accepted) (by rw [ticked.ts]; omega)
    (by simp only [ticked.ts, k.params, channelsLeft] at more ⊢; omega) (by rw [k.acc, k.params]; exact acc) covered
  have whole := ticked.trans next
  rw [if_pos rfl, closing, if_pos rfl, ticked.ts, channelsItems_congr k.buf k.dataPinAct k.markerPinAct, left,
    show s.ts + sent - 1 = s.ts - 1 + sent by omega, ← List.append_assoc, ← channelsItems_add,
    show sent + (channelsLeft s - sent) = channelsLeft s by omega, k.markerPinAct] at whole
  refine ⟨t, ?_, whole, marker rfl⟩
  rw [microRun_add, run, andThen_next, microRun_one, tick]

end

section
variable {s : State} (accepted : tickAccepted s = true) (ts : s.ts = 0) (acc : s.acc ≤ s.params.n)
  (budget : 35 ≤ s.params.tickBudget)
include accepted ts acc budget

/-- The first tick of a frame that takes more than one. -/
theorem tick_begins_frame (longer : firstTickChannels s.params.tickBudget < s.acc) :
    ∃ t, exec .tick s = .next t ∧
      Ticked s t (frameStartItems s.params s.dataPinAct ++ channelsItems s 0 (firstTickChannels s.params.tickBudget))
        (firstTickChannels s.params.tickBudget + 1) ∧
      t.dataLvl = .driven .high ∧ channelsLeft t = s.acc - firstTickChannels s.params.tickBudget := by
  obtain ⟨t, tick, ticked, -, line, -⟩ := exec_tick_frameStart accepted ts acc budget
    (m := firstTickChannels s.params.tickBudget) (Nat.min_eq_left (Nat.le_of_lt longer)).symm
  have more : firstTickChannels s.params.tickBudget ≠ s.acc := Nat.ne_of_lt longer
  rw [closing, if_neg more, if_neg more, List.append_nil] at ticked
  refine ⟨t, tick, ticked, line, ?_⟩
  rw [channelsLeft, ticked.ts, ticked.keeps.acc]
  omega

/-- The ticks of a frame send it (R160, R161). -/
theorem ticks_send_frame :
    ∃ t, microRun (exec .tick) (frameInvocations s.params.tickBudget s.acc) s = .next t ∧
      Ticked s t (frameItems s) 0 ∧ t.dataLvl = .driven .high ∧ t.markerLvl = .driven .high := by
  by_cases short : s.acc ≤ firstTickChannels s.params.tickBudget
  · obtain ⟨t, tick, ticked, -, line, marker⟩ := exec_tick_frameStart accepted ts acc budget (m := s.acc)
      (Nat.min_eq_right short).symm
    rw [closing, if_pos rfl, if_pos rfl] at ticked
    rw [frameInvocations, if_pos short, microRun_one]
    exact ⟨t, tick, ticked, line, marker rfl⟩
  · have longer := Nat.not_le.mp short
    obtain ⟨u, tick, ticked, line, left⟩ := tick_begins_frame accepted ts acc budget longer
    have k := ticked.keeps
    obtain ⟨t, run, next, marker⟩ := ticks_complete_frame (ticked.accepted accepted) (by rw [ticked.ts]; omega)
      (by rw [ticked.ts, k.params]; omega) (by rw [k.acc, k.params]; exact acc) (by rw [k.params]; omega)
    have whole := ticked.trans next
    rw [channelsItems_congr k.buf k.dataPinAct k.markerPinAct, ticked.ts, Nat.add_sub_cancel, left, k.markerPinAct,
      List.append_assoc, ← List.append_assoc (channelsItems s 0 _)] at whole
    have split := channelsItems_add s 0 (firstTickChannels s.params.tickBudget)
      (s.acc - firstTickChannels s.params.tickBudget)
    rw [Nat.zero_add, show firstTickChannels s.params.tickBudget + (s.acc - firstTickChannels s.params.tickBudget) = s.acc
      by omega] at split
    rw [← split, ← List.append_assoc] at whole
    rw [left, k.params] at run
    rw [frameInvocations, if_neg short, microRun_add, microRun_one, tick, andThen_next]
    refine ⟨t, run, whole, ?_, marker⟩
    rcases next.data with same | high
    · exact same.trans line
    · exact high

/-- Fewer ticks than that leave the frame in progress. -/
theorem ticks_begin_frame {j : Nat} (begun : 0 < j) (fewer : j < frameInvocations s.params.tickBudget s.acc) :
    ∃ u, microRun (exec .tick) j s = .next u ∧ u.ts ≠ 0 ∧ u.ts ≤ s.acc ∧
      Ticked s u (frameStartItems s.params s.dataPinAct ++ channelsItems s 0 (u.ts - 1)) u.ts ∧
      u.dataLvl = .driven .high := by
  have longer : firstTickChannels s.params.tickBudget < s.acc := by
    by_contra short
    rw [frameInvocations, if_pos (Nat.not_lt.mp short)] at fewer
    omega
  rw [frameInvocations, if_neg (Nat.not_le.mpr longer)] at fewer
  obtain ⟨u, tick, ticked, line, left⟩ := tick_begins_frame accepted ts acc budget longer
  have k := ticked.keeps
  obtain ⟨i, rfl⟩ : ∃ i, j = 1 + i := ⟨j - 1, by omega⟩
  have pays : 0 < laterTickChannels s.params.tickBudget := by
    simp only [laterTickChannels, slotCost]
    omega
  obtain ⟨last, number, more, -⟩ := lastTick (left := s.acc - firstTickChannels s.params.tickBudget) (by omega) pays
  have before : laterTickChannels s.params.tickBudget * i ≤ laterTickChannels s.params.tickBudget * last :=
    Nat.mul_le_mul_left _ (by omega)
  obtain ⟨t, run, next⟩ := ticks_inFrame (ticked.accepted accepted) (by rw [ticked.ts]; omega)
    (by rw [ticked.ts, k.params]; omega) (by rw [k.acc, k.params]; exact acc) (j := i) (by rw [left, k.params]; omega)
  have whole := ticked.trans next
  rw [channelsItems_congr k.buf k.dataPinAct k.markerPinAct, ticked.ts, k.params, Nat.add_sub_cancel, List.append_assoc,
    show channelsItems s (firstTickChannels s.params.tickBudget) = channelsItems s (0 + firstTickChannels s.params.tickBudget)
      by rw [Nat.zero_add], ← channelsItems_add] at whole
  have at_t := whole.ts
  refine ⟨t, ?_, by omega, by omega, ?_, ?_⟩
  · rw [microRun_add, microRun_one, tick, andThen_next, run]
  · rw [at_t, show firstTickChannels s.params.tickBudget + 1 + laterTickChannels s.params.tickBudget * i - 1 =
      firstTickChannels s.params.tickBudget + laterTickChannels s.params.tickBudget * i by omega]
    exact whole
  · rcases next.data with same | high
    · exact same.trans line
    · exact high

end

/-- Settles O41. -/
theorem frameProperty : Obligations.FrameProperty := by
  intro s accepted ts acc budget
  refine ⟨?_, fun j begun fewer => ?_⟩
  · obtain ⟨t, run, ticked, line, marker⟩ := ticks_send_frame accepted ts acc budget
    exact ⟨t, run, ticked.trace, ticked.ts, line, marker, ticked.accepted accepted, ticked.keeps.buf, ticked.keeps.acc⟩
  · obtain ⟨u, run, inside, range, ticked, line⟩ := ticks_begin_frame accepted ts acc budget begun fewer
    refine ⟨u, run, inside, range, ?_, line, ticked.accepted accepted⟩
    rw [ticked.trace, List.append_assoc]

end Sys2Proof.Machine
end

section
/-! PROOFS. The byte a WRITE stores on the wire (95_test_vectors.md X1), the nominal times of what is sent
(70_reset_and_hazards.md section 4), and merged traces (00_scope.md R17). -/

namespace Sys2Proof.Machine

/-! ### The byte on the wire -/

/-- Start goes to the frame's start; a running block stays where it is. -/
theorem startIfStopped_ts {s t : State} (e : startIfStopped s = .next t) : t.ts = s.ts ∨ t.ts = 0 := by
  cases started : s.started
  · rw [startIfStopped_stopped started, startProcedure_eq] at e
    split_ifs at e
    cases e
    exact .inr rfl
  · rw [startIfStopped_started started] at e
    cases e
    exact .inl rfl

/-- A frame's channels are those before a channel, the channel, and those after it. -/
theorem channelsItems_split (s : State) {m k : Nat} (inside : m < k) :
    channelsItems s 0 k = channelsItems s 0 m ++ channelItems s.dataPinAct s.markerPinAct (cellRead s.buf m) ++
      channelsItems s (m + 1) (k - (m + 1)) := by
  obtain ⟨j, rfl⟩ : ∃ j, k = m + (j + 1) := ⟨k - (m + 1), by omega⟩
  rw [channelsItems_add, Nat.zero_add, channelsItems, List.append_assoc, show m + (j + 1) - (m + 1) = j by omega]

/-- The next frame's start: the frame in progress is sent first. -/
theorem ticks_reach_frame {s : State} (accepted : tickAccepted s = true) (acc : s.acc ≤ s.params.n)
    (high : s.ts ≤ s.params.n) (rate : 11 ≤ s.params.tickBudget) :
    ∃ m, microRun (exec .tick) (if s.ts = 0 then 0 else (channelsLeft s + laterTickChannels s.params.tickBudget - 1) /
        laterTickChannels s.params.tickBudget) s = .next m ∧
      Ticked s m (if s.ts = 0 then [] else channelsItems s (s.ts - 1) (channelsLeft s) ++ [.edge s.markerPinAct .high])
        0 := by
  by_cases ts : s.ts = 0
  · rw [if_pos ts, if_pos ts]
    exact ⟨s, rfl, ts ▸ Ticked.refl accepted⟩
  · rw [if_neg ts, if_neg ts]
    obtain ⟨m, run, ticked, -⟩ := ticks_complete_frame accepted ts high acc rate
    exact ⟨m, run, ticked⟩

/-- Settles O42: the frame after the WRITE is the frame of the buffer the WRITE leaves. -/
theorem writeReachesTheWire : Obligations.WriteReachesTheWire := by
  rintro c v s t _ wf acc high budget low channel e accepted rfl
  obtain ⟨written, count, -, -⟩ := execWrite_eq_next low channel e
  have params : t.params = s.params := (exec_host_keeps (.inl ⟨c, v, rfl⟩) e).1.params
  have acc_t : t.acc ≤ t.params.n := by
    rw [params]
    omega
  have high_t : t.ts ≤ t.params.n := by
    rw [params]
    rcases startIfStopped_ts ((execWrite_inside low channel).symm.trans e) with same | zero
    · exact same ▸ high
    · omega
  obtain ⟨m, run, ticked⟩ := ticks_reach_frame accepted acc_t high_t (by rw [params]; omega)
  have k := ticked.keeps
  obtain ⟨u, frame, sent, -⟩ := ticks_send_frame (ticked.accepted accepted) ticked.ts
    (by rw [k.acc, k.params]; exact acc_t) (by rw [k.params, params]; exact budget)
  refine ⟨m, u, run, ticked.ts, k.buf, k.acc, ticked.trace, by rw [← k.params, ← k.acc]; exact frame, sent.ts, ?_⟩
  have byte : cellRead t.buf (c.toNat - 1) = clampValue v := by
    rw [written, show c.toNat - 1 = (c - 1).toNat by omega, cellRead_cellWrite s.buf s.params.n 0 _ _ _ wf, if_pos rfl]
  rw [sent.trace, frameItems, k.params, k.acc, k.dataPinAct, k.markerPinAct,
    channelsItems_congr k.buf k.dataPinAct k.markerPinAct,
    channelsItems_split t (m := c.toNat - 1) (k := t.acc) (by omega), byte, clampValue_eq,
    show c.toNat - 1 + 1 = c.toNat by omega]
  simp only [List.append_assoc]

/-! ### Nominal times -/

@[simp] theorem traceBits_append (t u : List TraceItem) : traceBits (t ++ u) = traceBits t + traceBits u := by
  simp [traceBits]

theorem traceBits_frameStartItems {p : Params} (wf : p.wf = true) (pin : Pin) :
    traceBits (frameStartItems p pin) = frameStartCost := by
  have sum : p.breakBits + p.mabBits = 24 := by
    simp only [Params.wf, decide_eq_true_eq] at wf
    omega
  have slot : traceBits (slotItems pin startCode) = 11 := traceBits_slotItems pin startCode
  change p.breakBits + (p.mabBits + traceBits (slotItems pin startCode)) = 35
  omega

theorem traceBits_channelsItems (s : State) (k m : Nat) : traceBits (channelsItems s k m) = slotCost * m := by
  induction m generalizing k with
  | zero => rfl
  | succ m ih =>
    have unit : traceBits (channelItems s.dataPinAct s.markerPinAct (cellRead s.buf k)) = slotCost := rfl
    rw [channelsItems, traceBits_append, unit, ih, Nat.mul_succ, Nat.add_comm]

/-- Settles O43. -/
theorem nominalFrameTime : Obligations.NominalFrameTime := by
  refine ⟨fun v pin => ⟨rfl, rfl⟩, fun p pin wf => ?_, fun s wf => ?_, fun v pin s => ?_⟩
  · have bits := traceBits_frameStartItems wf pin
    exact ⟨bits, by rw [nominalMicros, bits]; rfl⟩
  · have edge : traceBits [.edge s.markerPinAct .high] = 0 := rfl
    simp only [nominalMicros, frameItems, traceBits_append, traceBits_frameStartItems wf, traceBits_channelsItems, edge,
      bitPeriodMicros, frameStartCost, slotCost]
    omega
  · refine ⟨_, _, exec_sendByte v pin s, rfl, ?_⟩
    rw [sendByteCycles, traceBits_slotItems, Nat.mul_comm]
    rfl

/-! ### Merged traces -/

theorem mergeItem_cases (item : TraceItem) (rest : List TraceItem) :
    (∃ p l h d d' tail, item = .seg p l d h ∧ rest = .seg p l d' h :: tail ∧
      mergeItem item rest = .seg p l (d + d') h :: tail) ∨ mergeItem item rest = item :: rest := by
  unfold mergeItem
  split
  · split_ifs with same
    · obtain ⟨rfl, rfl, rfl⟩ := same
      exact .inl ⟨_, _, _, _, _, _, rfl, rfl, rfl⟩
    · exact .inr rfl
  · exact .inr rfl

/-- The item does not merge with the trace that follows it. -/
def StaysApart (item : TraceItem) (rest : List TraceItem) : Prop := mergeItem item rest = item :: rest

/-- No two adjacent items merge. -/
def Merged : List TraceItem → Prop
  | [] => True
  | item :: rest => StaysApart item rest ∧ Merged rest

/-- Whether an item merges does not depend on its duration, which is all that merging changes. -/
theorem StaysApart.longer {p : Pin} {l : Level} {h : Hold} {d : Nat} {rest : List TraceItem}
    (apart : StaysApart (.seg p l d h) rest) (e : Nat) : StaysApart (.seg p l e h) rest := by
  unfold StaysApart mergeItem at *
  split at apart <;> simp_all

theorem Merged.mergeItem {rest : List TraceItem} (merged : Merged rest) (item : TraceItem) :
    Merged (mergeItem item rest) := by
  obtain ⟨p, l, h, d, d', tail, rfl, rfl, sum⟩ | apart := mergeItem_cases item rest
  · rw [sum]
    exact ⟨merged.1.longer _, merged.2⟩
  · rw [apart]
    exact ⟨apart, merged⟩

theorem merged_observation (t : List TraceItem) : Merged (observation t) := by
  induction t with
  | nil => trivial
  | cons item rest ih => exact ih.mergeItem item

theorem Merged.observation_eq {t : List TraceItem} (merged : Merged t) : observation t = t := by
  induction t with
  | nil => rfl
  | cons item rest ih =>
    change Machine.mergeItem item (observation rest) = item :: rest
    rw [ih merged.2]
    exact merged.1

theorem segLevels_mergeItem (pin : Pin) (item : TraceItem) (rest : List TraceItem) :
    segLevels pin (mergeItem item rest) = segLevels pin (item :: rest) := by
  obtain ⟨p, l, h, d, d', tail, rfl, rfl, sum⟩ | apart := mergeItem_cases item rest
  · rw [sum]
    by_cases names : p = pin
    · simp only [segLevels, if_pos names, ← List.replicate_append_replicate, List.append_assoc]
    · simp only [segLevels, if_neg names]
  · rw [apart]

theorem segLevels_congr (pin : Pin) (item : TraceItem) {rest rest' : List TraceItem}
    (same : segLevels pin rest = segLevels pin rest') : segLevels pin (item :: rest) = segLevels pin (item :: rest') := by
  cases item <;> simp [segLevels, same]

theorem segLevels_observation (pin : Pin) (t : List TraceItem) : segLevels pin (observation t) = segLevels pin t := by
  induction t with
  | nil => rfl
  | cons item rest ih => exact (segLevels_mergeItem pin item _).trans (segLevels_congr pin item ih)

/-- Settles O44: an observation is merged, and merging two items joins their levels. -/
theorem mergingKeepsTheWaveform : Obligations.MergingKeepsTheWaveform :=
  ⟨fun t => (merged_observation t).observation_eq, segLevels_observation,
    fun pin => by simp [observation, slotItems, mergeItem, bitLevel, Level.ofBit],
    fun pin => by simp [observation, slotItems, mergeItem, bitLevel, Level.ofBit]⟩

end Sys2Proof.Machine
end
